-- ==== Sys2Proof/Word.lean ====
section
/-! DEFINITION. The two word types of the machine (`00_scope.md` R7, R12). -/
namespace Sys2Proof

/-- An 8-bit value (`u8` of R12): registers, memory bytes, immediates. -/
abbrev Byte := BitVec 8

/-- A 16-bit value (`u16` of R12): register pairs, SP, PC and every address. -/
abbrev Word := BitVec 16

end Sys2Proof
end

