-- ==== Sys2Proof/WellFormed.lean ====
section
/-! DEFINITION. Which instructions are well formed: those that are a whole instruction. Every immediate
is a bit vector of its exact width, so every value of it is legal (`30_encoding.md` R304, R331). -/
namespace Sys2Proof

/-- The 0xCB escape byte taken alone is no whole instruction: the byte and its second byte form one
(`47_system.md` R751; `30_encoding.md` R300). -/
def Instr.wellFormed : Instr → Bool
  | .prefixCb => false
  | _ => true

end Sys2Proof
end

