-- ==== Sys2Proof/Decode.lean ====
section
/-! DEFINITION. Decoding bytes to instructions by the fields of `30_encoding.md` (R300 to R332), and the
encoder, written from the rows of `spec/opcode_table.json`. -/
namespace Sys2Proof

/-! ### Words of two bytes (R12, R304) -/

/-- `v[15:8]`. -/
def highByte (v : Word) : Byte := v.extractLsb' 8 8

/-- `v[7:0]`. -/
def lowByte (v : Word) : Byte := v.extractLsb' 0 8

/-- `hi:lo`. -/
def wordOf (hi lo : Byte) : Word := hi ++ lo

/-! ### The operand codes (R310 to R315) -/

/-- The register code `r` (R310); code 6, the memory operand, names no register. -/
def Reg8.ofCode : Nat → Option Reg8
  | 0 => some .b
  | 1 => some .c
  | 2 => some .d
  | 3 => some .e
  | 4 => some .h
  | 5 => some .l
  | 6 => none
  | _ => some .a

/-- The pair code `rp` (R311). -/
def RegPair.ofCode : Nat → RegPair
  | 0 => .bc
  | 1 => .de
  | 2 => .hl
  | _ => .sp

/-- The pair code `rp2` (R312). -/
def StackPair.ofCode : Nat → StackPair
  | 0 => .bc
  | 1 => .de
  | 2 => .hl
  | _ => .af

/-- The condition code `cc` (R313). -/
def Cond.ofCode : Nat → Cond
  | 0 => .nz
  | 1 => .z
  | 2 => .nc
  | _ => .c

/-- The ALU operation code (R314). -/
def AluOp.ofCode : Nat → AluOp
  | 0 => .add
  | 1 => .adc
  | 2 => .sub
  | 3 => .sbc
  | 4 => .and
  | 5 => .xor
  | 6 => .or
  | _ => .cp

/-- The shift operation code (R315). -/
def ShiftOp.ofCode : Nat → ShiftOp
  | 0 => .rlc
  | 1 => .rrc
  | 2 => .rl
  | 3 => .rr
  | 4 => .sla
  | 5 => .sra
  | 6 => .swap
  | _ => .srl

/-- The bit number in a field of three bits (R316). -/
def BitIx.ofCode : Nat → BitIx
  | 0 => .b0
  | 1 => .b1
  | 2 => .b2
  | 3 => .b3
  | 4 => .b4
  | 5 => .b5
  | 6 => .b6
  | _ => .b7

/-! ### The grids of R321 and R322: an instruction by its operands -/

/-- The grid of `LD r,r'` (R401). -/
def Instr.ldReg (dst : Reg8) (r : Reg8) : Instr :=
  match dst, r with
  | .b, .b => .ld_B_B
  | .b, .c => .ld_B_C
  | .b, .d => .ld_B_D
  | .b, .e => .ld_B_E
  | .b, .h => .ld_B_H
  | .b, .l => .ld_B_L
  | .b, .a => .ld_B_A
  | .c, .b => .ld_C_B
  | .c, .c => .ld_C_C
  | .c, .d => .ld_C_D
  | .c, .e => .ld_C_E
  | .c, .h => .ld_C_H
  | .c, .l => .ld_C_L
  | .c, .a => .ld_C_A
  | .d, .b => .ld_D_B
  | .d, .c => .ld_D_C
  | .d, .d => .ld_D_D
  | .d, .e => .ld_D_E
  | .d, .h => .ld_D_H
  | .d, .l => .ld_D_L
  | .d, .a => .ld_D_A
  | .e, .b => .ld_E_B
  | .e, .c => .ld_E_C
  | .e, .d => .ld_E_D
  | .e, .e => .ld_E_E
  | .e, .h => .ld_E_H
  | .e, .l => .ld_E_L
  | .e, .a => .ld_E_A
  | .h, .b => .ld_H_B
  | .h, .c => .ld_H_C
  | .h, .d => .ld_H_D
  | .h, .e => .ld_H_E
  | .h, .h => .ld_H_H
  | .h, .l => .ld_H_L
  | .h, .a => .ld_H_A
  | .l, .b => .ld_L_B
  | .l, .c => .ld_L_C
  | .l, .d => .ld_L_D
  | .l, .e => .ld_L_E
  | .l, .h => .ld_L_H
  | .l, .l => .ld_L_L
  | .l, .a => .ld_L_A
  | .a, .b => .ld_A_B
  | .a, .c => .ld_A_C
  | .a, .d => .ld_A_D
  | .a, .e => .ld_A_E
  | .a, .h => .ld_A_H
  | .a, .l => .ld_A_L
  | .a, .a => .ld_A_A

/-- `LD r,n` (R402). -/
def Instr.ldImm (dst : Reg8) : Byte → Instr :=
  match dst with
  | .b => .ld_B_n
  | .c => .ld_C_n
  | .d => .ld_D_n
  | .e => .ld_E_n
  | .h => .ld_H_n
  | .l => .ld_L_n
  | .a => .ld_A_n

/-- `LD r,(HL)` (R403). -/
def Instr.ldFromHL (dst : Reg8) : Instr :=
  match dst with
  | .b => .ld_B_atHL
  | .c => .ld_C_atHL
  | .d => .ld_D_atHL
  | .e => .ld_E_atHL
  | .h => .ld_H_atHL
  | .l => .ld_L_atHL
  | .a => .ld_A_atHL

/-- `LD (HL),r` (R404). -/
def Instr.ldToHL (r : Reg8) : Instr :=
  match r with
  | .b => .ld_atHL_B
  | .c => .ld_atHL_C
  | .d => .ld_atHL_D
  | .e => .ld_atHL_E
  | .h => .ld_atHL_H
  | .l => .ld_atHL_L
  | .a => .ld_atHL_A

/-- `LD rr,nn` (R450). -/
def Instr.ldPair (p : RegPair) : Word → Instr :=
  match p with
  | .bc => .ld_BC_nn
  | .de => .ld_DE_nn
  | .hl => .ld_HL_nn
  | .sp => .ld_SP_nn

/-- `PUSH rr` (R453). -/
def Instr.push (p : StackPair) : Instr :=
  match p with
  | .bc => .push_BC
  | .de => .push_DE
  | .hl => .push_HL
  | .af => .push_AF

/-- `POP rr` (R454, R455). -/
def Instr.pop (p : StackPair) : Instr :=
  match p with
  | .bc => .pop_BC
  | .de => .pop_DE
  | .hl => .pop_HL
  | .af => .pop_AF

/-- The grid of the ALU operations on a register (R505, R510 to R531). -/
def Instr.aluReg (op : AluOp) (r : Reg8) : Instr :=
  match op, r with
  | .add, .b => .add_A_B
  | .add, .c => .add_A_C
  | .add, .d => .add_A_D
  | .add, .e => .add_A_E
  | .add, .h => .add_A_H
  | .add, .l => .add_A_L
  | .add, .a => .add_A_A
  | .adc, .b => .adc_A_B
  | .adc, .c => .adc_A_C
  | .adc, .d => .adc_A_D
  | .adc, .e => .adc_A_E
  | .adc, .h => .adc_A_H
  | .adc, .l => .adc_A_L
  | .adc, .a => .adc_A_A
  | .sub, .b => .sub_B
  | .sub, .c => .sub_C
  | .sub, .d => .sub_D
  | .sub, .e => .sub_E
  | .sub, .h => .sub_H
  | .sub, .l => .sub_L
  | .sub, .a => .sub_A
  | .sbc, .b => .sbc_A_B
  | .sbc, .c => .sbc_A_C
  | .sbc, .d => .sbc_A_D
  | .sbc, .e => .sbc_A_E
  | .sbc, .h => .sbc_A_H
  | .sbc, .l => .sbc_A_L
  | .sbc, .a => .sbc_A_A
  | .and, .b => .and_B
  | .and, .c => .and_C
  | .and, .d => .and_D
  | .and, .e => .and_E
  | .and, .h => .and_H
  | .and, .l => .and_L
  | .and, .a => .and_A
  | .xor, .b => .xor_B
  | .xor, .c => .xor_C
  | .xor, .d => .xor_D
  | .xor, .e => .xor_E
  | .xor, .h => .xor_H
  | .xor, .l => .xor_L
  | .xor, .a => .xor_A
  | .or, .b => .or_B
  | .or, .c => .or_C
  | .or, .d => .or_D
  | .or, .e => .or_E
  | .or, .h => .or_H
  | .or, .l => .or_L
  | .or, .a => .or_A
  | .cp, .b => .cp_B
  | .cp, .c => .cp_C
  | .cp, .d => .cp_D
  | .cp, .e => .cp_E
  | .cp, .h => .cp_H
  | .cp, .l => .cp_L
  | .cp, .a => .cp_A

/-- The ALU operations on `(HL)`. -/
def Instr.aluHL (op : AluOp) : Instr :=
  match op with
  | .add => .add_A_atHL
  | .adc => .adc_A_atHL
  | .sub => .sub_atHL
  | .sbc => .sbc_A_atHL
  | .and => .and_atHL
  | .xor => .xor_atHL
  | .or => .or_atHL
  | .cp => .cp_atHL

/-- The ALU operations on `n`. -/
def Instr.aluImm (op : AluOp) : Byte → Instr :=
  match op with
  | .add => .add_A_n
  | .adc => .adc_A_n
  | .sub => .sub_n
  | .sbc => .sbc_A_n
  | .and => .and_n
  | .xor => .xor_n
  | .or => .or_n
  | .cp => .cp_n

/-- `INC r` (R534). -/
def Instr.incReg (r : Reg8) : Instr :=
  match r with
  | .b => .inc_B
  | .c => .inc_C
  | .d => .inc_D
  | .e => .inc_E
  | .h => .inc_H
  | .l => .inc_L
  | .a => .inc_A

/-- `DEC r` (R536). -/
def Instr.decReg (r : Reg8) : Instr :=
  match r with
  | .b => .dec_B
  | .c => .dec_C
  | .d => .dec_D
  | .e => .dec_E
  | .h => .dec_H
  | .l => .dec_L
  | .a => .dec_A

/-- `ADD HL,rr` (R552). -/
def Instr.addHL (p : RegPair) : Instr :=
  match p with
  | .bc => .add_HL_BC
  | .de => .add_HL_DE
  | .hl => .add_HL_HL
  | .sp => .add_HL_SP

/-- `INC rr` (R553). -/
def Instr.incPair (p : RegPair) : Instr :=
  match p with
  | .bc => .inc_BC
  | .de => .inc_DE
  | .hl => .inc_HL
  | .sp => .inc_SP

/-- `DEC rr` (R554). -/
def Instr.decPair (p : RegPair) : Instr :=
  match p with
  | .bc => .dec_BC
  | .de => .dec_DE
  | .hl => .dec_HL
  | .sp => .dec_SP

/-- The grid of the rotates and shifts on a register (R605 to R619). -/
def Instr.shiftReg (op : ShiftOp) (r : Reg8) : Instr :=
  match op, r with
  | .rlc, .b => .rlc_B
  | .rlc, .c => .rlc_C
  | .rlc, .d => .rlc_D
  | .rlc, .e => .rlc_E
  | .rlc, .h => .rlc_H
  | .rlc, .l => .rlc_L
  | .rlc, .a => .rlc_A
  | .rrc, .b => .rrc_B
  | .rrc, .c => .rrc_C
  | .rrc, .d => .rrc_D
  | .rrc, .e => .rrc_E
  | .rrc, .h => .rrc_H
  | .rrc, .l => .rrc_L
  | .rrc, .a => .rrc_A
  | .rl, .b => .rl_B
  | .rl, .c => .rl_C
  | .rl, .d => .rl_D
  | .rl, .e => .rl_E
  | .rl, .h => .rl_H
  | .rl, .l => .rl_L
  | .rl, .a => .rl_A
  | .rr, .b => .rr_B
  | .rr, .c => .rr_C
  | .rr, .d => .rr_D
  | .rr, .e => .rr_E
  | .rr, .h => .rr_H
  | .rr, .l => .rr_L
  | .rr, .a => .rr_A
  | .sla, .b => .sla_B
  | .sla, .c => .sla_C
  | .sla, .d => .sla_D
  | .sla, .e => .sla_E
  | .sla, .h => .sla_H
  | .sla, .l => .sla_L
  | .sla, .a => .sla_A
  | .sra, .b => .sra_B
  | .sra, .c => .sra_C
  | .sra, .d => .sra_D
  | .sra, .e => .sra_E
  | .sra, .h => .sra_H
  | .sra, .l => .sra_L
  | .sra, .a => .sra_A
  | .swap, .b => .swap_B
  | .swap, .c => .swap_C
  | .swap, .d => .swap_D
  | .swap, .e => .swap_E
  | .swap, .h => .swap_H
  | .swap, .l => .swap_L
  | .swap, .a => .swap_A
  | .srl, .b => .srl_B
  | .srl, .c => .srl_C
  | .srl, .d => .srl_D
  | .srl, .e => .srl_E
  | .srl, .h => .srl_H
  | .srl, .l => .srl_L
  | .srl, .a => .srl_A

/-- The rotates and shifts on `(HL)` (R606 to R620). -/
def Instr.shiftHL (op : ShiftOp) : Instr :=
  match op with
  | .rlc => .rlc_atHL
  | .rrc => .rrc_atHL
  | .rl => .rl_atHL
  | .rr => .rr_atHL
  | .sla => .sla_atHL
  | .sra => .sra_atHL
  | .swap => .swap_atHL
  | .srl => .srl_atHL

/-- The grid of `BIT b,r` (R650). -/
def Instr.bitReg (b : BitIx) (r : Reg8) : Instr :=
  match b, r with
  | .b0, .b => .bit_0_B
  | .b0, .c => .bit_0_C
  | .b0, .d => .bit_0_D
  | .b0, .e => .bit_0_E
  | .b0, .h => .bit_0_H
  | .b0, .l => .bit_0_L
  | .b0, .a => .bit_0_A
  | .b1, .b => .bit_1_B
  | .b1, .c => .bit_1_C
  | .b1, .d => .bit_1_D
  | .b1, .e => .bit_1_E
  | .b1, .h => .bit_1_H
  | .b1, .l => .bit_1_L
  | .b1, .a => .bit_1_A
  | .b2, .b => .bit_2_B
  | .b2, .c => .bit_2_C
  | .b2, .d => .bit_2_D
  | .b2, .e => .bit_2_E
  | .b2, .h => .bit_2_H
  | .b2, .l => .bit_2_L
  | .b2, .a => .bit_2_A
  | .b3, .b => .bit_3_B
  | .b3, .c => .bit_3_C
  | .b3, .d => .bit_3_D
  | .b3, .e => .bit_3_E
  | .b3, .h => .bit_3_H
  | .b3, .l => .bit_3_L
  | .b3, .a => .bit_3_A
  | .b4, .b => .bit_4_B
  | .b4, .c => .bit_4_C
  | .b4, .d => .bit_4_D
  | .b4, .e => .bit_4_E
  | .b4, .h => .bit_4_H
  | .b4, .l => .bit_4_L
  | .b4, .a => .bit_4_A
  | .b5, .b => .bit_5_B
  | .b5, .c => .bit_5_C
  | .b5, .d => .bit_5_D
  | .b5, .e => .bit_5_E
  | .b5, .h => .bit_5_H
  | .b5, .l => .bit_5_L
  | .b5, .a => .bit_5_A
  | .b6, .b => .bit_6_B
  | .b6, .c => .bit_6_C
  | .b6, .d => .bit_6_D
  | .b6, .e => .bit_6_E
  | .b6, .h => .bit_6_H
  | .b6, .l => .bit_6_L
  | .b6, .a => .bit_6_A
  | .b7, .b => .bit_7_B
  | .b7, .c => .bit_7_C
  | .b7, .d => .bit_7_D
  | .b7, .e => .bit_7_E
  | .b7, .h => .bit_7_H
  | .b7, .l => .bit_7_L
  | .b7, .a => .bit_7_A

/-- `BIT b,(HL)` (R651). -/
def Instr.bitHL (b : BitIx) : Instr :=
  match b with
  | .b0 => .bit_0_atHL
  | .b1 => .bit_1_atHL
  | .b2 => .bit_2_atHL
  | .b3 => .bit_3_atHL
  | .b4 => .bit_4_atHL
  | .b5 => .bit_5_atHL
  | .b6 => .bit_6_atHL
  | .b7 => .bit_7_atHL

/-- The grid of `RES b,r` (R652). -/
def Instr.resReg (b : BitIx) (r : Reg8) : Instr :=
  match b, r with
  | .b0, .b => .res_0_B
  | .b0, .c => .res_0_C
  | .b0, .d => .res_0_D
  | .b0, .e => .res_0_E
  | .b0, .h => .res_0_H
  | .b0, .l => .res_0_L
  | .b0, .a => .res_0_A
  | .b1, .b => .res_1_B
  | .b1, .c => .res_1_C
  | .b1, .d => .res_1_D
  | .b1, .e => .res_1_E
  | .b1, .h => .res_1_H
  | .b1, .l => .res_1_L
  | .b1, .a => .res_1_A
  | .b2, .b => .res_2_B
  | .b2, .c => .res_2_C
  | .b2, .d => .res_2_D
  | .b2, .e => .res_2_E
  | .b2, .h => .res_2_H
  | .b2, .l => .res_2_L
  | .b2, .a => .res_2_A
  | .b3, .b => .res_3_B
  | .b3, .c => .res_3_C
  | .b3, .d => .res_3_D
  | .b3, .e => .res_3_E
  | .b3, .h => .res_3_H
  | .b3, .l => .res_3_L
  | .b3, .a => .res_3_A
  | .b4, .b => .res_4_B
  | .b4, .c => .res_4_C
  | .b4, .d => .res_4_D
  | .b4, .e => .res_4_E
  | .b4, .h => .res_4_H
  | .b4, .l => .res_4_L
  | .b4, .a => .res_4_A
  | .b5, .b => .res_5_B
  | .b5, .c => .res_5_C
  | .b5, .d => .res_5_D
  | .b5, .e => .res_5_E
  | .b5, .h => .res_5_H
  | .b5, .l => .res_5_L
  | .b5, .a => .res_5_A
  | .b6, .b => .res_6_B
  | .b6, .c => .res_6_C
  | .b6, .d => .res_6_D
  | .b6, .e => .res_6_E
  | .b6, .h => .res_6_H
  | .b6, .l => .res_6_L
  | .b6, .a => .res_6_A
  | .b7, .b => .res_7_B
  | .b7, .c => .res_7_C
  | .b7, .d => .res_7_D
  | .b7, .e => .res_7_E
  | .b7, .h => .res_7_H
  | .b7, .l => .res_7_L
  | .b7, .a => .res_7_A

/-- `RES b,(HL)` (R653). -/
def Instr.resHL (b : BitIx) : Instr :=
  match b with
  | .b0 => .res_0_atHL
  | .b1 => .res_1_atHL
  | .b2 => .res_2_atHL
  | .b3 => .res_3_atHL
  | .b4 => .res_4_atHL
  | .b5 => .res_5_atHL
  | .b6 => .res_6_atHL
  | .b7 => .res_7_atHL

/-- The grid of `SET b,r` (R654). -/
def Instr.setReg (b : BitIx) (r : Reg8) : Instr :=
  match b, r with
  | .b0, .b => .set_0_B
  | .b0, .c => .set_0_C
  | .b0, .d => .set_0_D
  | .b0, .e => .set_0_E
  | .b0, .h => .set_0_H
  | .b0, .l => .set_0_L
  | .b0, .a => .set_0_A
  | .b1, .b => .set_1_B
  | .b1, .c => .set_1_C
  | .b1, .d => .set_1_D
  | .b1, .e => .set_1_E
  | .b1, .h => .set_1_H
  | .b1, .l => .set_1_L
  | .b1, .a => .set_1_A
  | .b2, .b => .set_2_B
  | .b2, .c => .set_2_C
  | .b2, .d => .set_2_D
  | .b2, .e => .set_2_E
  | .b2, .h => .set_2_H
  | .b2, .l => .set_2_L
  | .b2, .a => .set_2_A
  | .b3, .b => .set_3_B
  | .b3, .c => .set_3_C
  | .b3, .d => .set_3_D
  | .b3, .e => .set_3_E
  | .b3, .h => .set_3_H
  | .b3, .l => .set_3_L
  | .b3, .a => .set_3_A
  | .b4, .b => .set_4_B
  | .b4, .c => .set_4_C
  | .b4, .d => .set_4_D
  | .b4, .e => .set_4_E
  | .b4, .h => .set_4_H
  | .b4, .l => .set_4_L
  | .b4, .a => .set_4_A
  | .b5, .b => .set_5_B
  | .b5, .c => .set_5_C
  | .b5, .d => .set_5_D
  | .b5, .e => .set_5_E
  | .b5, .h => .set_5_H
  | .b5, .l => .set_5_L
  | .b5, .a => .set_5_A
  | .b6, .b => .set_6_B
  | .b6, .c => .set_6_C
  | .b6, .d => .set_6_D
  | .b6, .e => .set_6_E
  | .b6, .h => .set_6_H
  | .b6, .l => .set_6_L
  | .b6, .a => .set_6_A
  | .b7, .b => .set_7_B
  | .b7, .c => .set_7_C
  | .b7, .d => .set_7_D
  | .b7, .e => .set_7_E
  | .b7, .h => .set_7_H
  | .b7, .l => .set_7_L
  | .b7, .a => .set_7_A

/-- `SET b,(HL)` (R655). -/
def Instr.setHL (b : BitIx) : Instr :=
  match b with
  | .b0 => .set_0_atHL
  | .b1 => .set_1_atHL
  | .b2 => .set_2_atHL
  | .b3 => .set_3_atHL
  | .b4 => .set_4_atHL
  | .b5 => .set_5_atHL
  | .b6 => .set_6_atHL
  | .b7 => .set_7_atHL

/-- `JP cc,nn` (R702). -/
def Instr.jpCc (cc : Cond) : Word → Instr :=
  match cc with
  | .nz => .jp_NZ_nn
  | .z => .jp_Z_nn
  | .nc => .jp_NC_nn
  | .c => .jp_C_nn

/-- `JR cc,e` (R705). -/
def Instr.jrCc (cc : Cond) : Byte → Instr :=
  match cc with
  | .nz => .jr_NZ_e
  | .z => .jr_Z_e
  | .nc => .jr_NC_e
  | .c => .jr_C_e

/-- `CALL cc,nn` (R707). -/
def Instr.callCc (cc : Cond) : Word → Instr :=
  match cc with
  | .nz => .call_NZ_nn
  | .z => .call_Z_nn
  | .nc => .call_NC_nn
  | .c => .call_C_nn

/-- `RET cc` (R709). -/
def Instr.retCc (cc : Cond) : Instr :=
  match cc with
  | .nz => .ret_NZ
  | .z => .ret_Z
  | .nc => .ret_NC
  | .c => .ret_C

/-- `RST 8*y` (R711). -/
def Instr.rst (y : BitIx) : Instr :=
  match y with
  | .b0 => .rst_00
  | .b1 => .rst_08
  | .b2 => .rst_10
  | .b3 => .rst_18
  | .b4 => .rst_20
  | .b5 => .rst_28
  | .b6 => .rst_30
  | .b7 => .rst_38

/-! ### The opcode pages (R302, R316, R320) -/

/-- What a first opcode byte stands for: a whole instruction, one that takes an immediate of one or two
bytes, or the escape to the extended page (R301). -/
inductive Form where
  | op (i : Instr)
  | imm8 (k : Byte → Instr)
  | imm16 (k : Word → Instr)
  | escape

/-- The field `x` of an opcode byte (R302). -/
def fieldX (o : Byte) : Nat := o.toNat / 64

/-- The field `y` of an opcode byte (R302). -/
def fieldY (o : Byte) : Nat := o.toNat / 8 % 8

/-- The field `z` of an opcode byte (R302). -/
def fieldZ (o : Byte) : Nat := o.toNat % 8

/-- Group `x = 0` of the one-byte page (R320). -/
def pageGroup0 (y z : Nat) : Form :=
  let p := y / 2
  match z with
  | 0 =>
    match y with
    | 0 => .op .nop
    | 1 => .imm16 .ld_atNn_SP
    | 2 => .imm8 .stop
    | 3 => .imm8 .jr_e
    | _ => .imm8 (Instr.jrCc (Cond.ofCode (y - 4)))
  | 1 =>
    if y % 2 = 0 then .imm16 (Instr.ldPair (RegPair.ofCode p))
    else .op (Instr.addHL (RegPair.ofCode p))
  | 2 =>
    match y with
    | 0 => .op .ld_atBC_A
    | 1 => .op .ld_A_atBC
    | 2 => .op .ld_atDE_A
    | 3 => .op .ld_A_atDE
    | 4 => .op .ld_atHLinc_A
    | 5 => .op .ld_A_atHLinc
    | 6 => .op .ld_atHLdec_A
    | _ => .op .ld_A_atHLdec
  | 3 =>
    if y % 2 = 0 then .op (Instr.incPair (RegPair.ofCode p))
    else .op (Instr.decPair (RegPair.ofCode p))
  | 4 =>
    match Reg8.ofCode y with
    | some r => .op (Instr.incReg r)
    | none => .op .inc_atHL
  | 5 =>
    match Reg8.ofCode y with
    | some r => .op (Instr.decReg r)
    | none => .op .dec_atHL
  | 6 =>
    match Reg8.ofCode y with
    | some r => .imm8 (Instr.ldImm r)
    | none => .imm8 .ld_atHL_n
  | _ =>
    match y with
    | 0 => .op .rlca
    | 1 => .op .rrca
    | 2 => .op .rla
    | 3 => .op .rra
    | 4 => .op .daa
    | 5 => .op .cpl
    | 6 => .op .scf
    | _ => .op .ccf

/-- Group `x = 1` of the one-byte page: the loads, and HALT in the slot of `LD (HL),(HL)` (R320). -/
def pageGroup1 (y z : Nat) : Form :=
  match Reg8.ofCode y, Reg8.ofCode z with
  | some dst, some r => .op (Instr.ldReg dst r)
  | some dst, none => .op (Instr.ldFromHL dst)
  | none, some r => .op (Instr.ldToHL r)
  | none, none => .op .halt

/-- Group `x = 2` of the one-byte page: the ALU operations (R320). -/
def pageGroup2 (y z : Nat) : Form :=
  match Reg8.ofCode z with
  | some r => .op (Instr.aluReg (AluOp.ofCode y) r)
  | none => .op (Instr.aluHL (AluOp.ofCode y))

/-- Group `x = 3` of the one-byte page, with the illegal bytes where they stand (R320, R330). -/
def pageGroup3 (y z : Nat) : Form :=
  let p := y / 2
  match z with
  | 0 =>
    match y with
    | 4 => .imm8 .ldh_atN_A
    | 5 => .imm8 .add_SP_e
    | 6 => .imm8 .ldh_A_atN
    | 7 => .imm8 .ld_HL_SPe
    | _ => .op (Instr.retCc (Cond.ofCode y))
  | 1 =>
    if y % 2 = 0 then .op (Instr.pop (StackPair.ofCode p))
    else
      match p with
      | 0 => .op .ret
      | 1 => .op .reti
      | 2 => .op .jp_HL
      | _ => .op .ld_SP_HL
  | 2 =>
    match y with
    | 4 => .op .ld_atC_A
    | 5 => .imm16 .ld_atNn_A
    | 6 => .op .ld_A_atC
    | 7 => .imm16 .ld_A_atNn
    | _ => .imm16 (Instr.jpCc (Cond.ofCode y))
  | 3 =>
    match y with
    | 0 => .imm16 .jp_nn
    | 1 => .escape
    | 2 => .op .illegal_D3
    | 3 => .op .illegal_DB
    | 4 => .op .illegal_E3
    | 5 => .op .illegal_EB
    | 6 => .op .di
    | _ => .op .ei
  | 4 =>
    match y with
    | 4 => .op .illegal_E4
    | 5 => .op .illegal_EC
    | 6 => .op .illegal_F4
    | 7 => .op .illegal_FC
    | _ => .imm16 (Instr.callCc (Cond.ofCode y))
  | 5 =>
    if y % 2 = 0 then .op (Instr.push (StackPair.ofCode p))
    else
      match p with
      | 0 => .imm16 .call_nn
      | 1 => .op .illegal_DD
      | 2 => .op .illegal_ED
      | _ => .op .illegal_FD
  | 6 => .imm8 (Instr.aluImm (AluOp.ofCode y))
  | _ => .op (Instr.rst (BitIx.ofCode y))

/-- The one-byte page (R320). -/
def onePage (o : Byte) : Form :=
  match fieldX o with
  | 0 => pageGroup0 (fieldY o) (fieldZ o)
  | 1 => pageGroup1 (fieldY o) (fieldZ o)
  | 2 => pageGroup2 (fieldY o) (fieldZ o)
  | _ => pageGroup3 (fieldY o) (fieldZ o)

/-- The extended page: every second byte is an instruction (R316, R322). -/
def extendedPage (o : Byte) : Instr :=
  match fieldX o, Reg8.ofCode (fieldZ o) with
  | 0, some r => Instr.shiftReg (ShiftOp.ofCode (fieldY o)) r
  | 0, none => Instr.shiftHL (ShiftOp.ofCode (fieldY o))
  | 1, some r => Instr.bitReg (BitIx.ofCode (fieldY o)) r
  | 1, none => Instr.bitHL (BitIx.ofCode (fieldY o))
  | 2, some r => Instr.resReg (BitIx.ofCode (fieldY o)) r
  | 2, none => Instr.resHL (BitIx.ofCode (fieldY o))
  | _, some r => Instr.setReg (BitIx.ofCode (fieldY o)) r
  | _, none => Instr.setHL (BitIx.ofCode (fieldY o))

/-- The length in bytes, from the first byte alone (R303). -/
def instrLength (o : Byte) : Nat :=
  match onePage o with
  | .op _ => 1
  | .imm8 _ => 2
  | .imm16 _ => 3
  | .escape => 2

/-! ### The decoder -/

/-- Why bytes decode to no instruction. -/
inductive DecodeError where
  /-- There is no byte at all. -/
  | noBytes
  /-- An immediate byte of the instruction is missing. -/
  | missingImmediate
  deriving DecidableEq, Repr

/-- The instruction at the head of a byte list, and the bytes after it. A lone escape byte at the end
of the list is the table's row `PREFIX_CB` (log entry 18). -/
def decode : List Byte → Except DecodeError (Instr × List Byte)
  | [] => .error .noBytes
  | o :: rest =>
    match onePage o with
    | .op i => .ok (i, rest)
    | .imm8 k =>
      match rest with
      | n :: rest' => .ok (k n, rest')
      | _ => .error .missingImmediate
    | .imm16 k =>
      match rest with
      | lo :: hi :: rest' => .ok (k (wordOf hi lo), rest')
      | _ => .error .missingImmediate
    | .escape =>
      match rest with
      | o2 :: rest' => .ok (extendedPage o2, rest')
      | [] => .ok (.prefixCb, [])

/-- The bytes, first at the lowest address, of an instruction whose table row gives `nbits` bits with
value `w`. The table writes its 16-bit rows as `0xCBxx`, the first byte in bits 15:8; a word whose low
byte is the escape is read with its first byte in bits 7:0 (log entry 2). -/
def tableBytes (nbits w : Nat) : List Byte :=
  if nbits ≤ 8 then [BitVec.ofNat 8 w]
  else if nbits ≤ 16 ∧ w / 256 % 256 = 0xCB then [0xCB, BitVec.ofNat 8 w]
  else if nbits ≤ 16 then [BitVec.ofNat 8 w, BitVec.ofNat 8 (w / 256)]
  else [BitVec.ofNat 8 w, BitVec.ofNat 8 (w / 256), BitVec.ofNat 8 (w / 65536)]

/-- The instruction the decoder reads from a table row's bits; immediate bytes the row gives no bits
are 0. -/
def decodeTableWord (nbits w : Nat) : Option Instr :=
  match decode (tableBytes nbits w) with
  | .ok (i, _) => some i
  | .error _ =>
    match decode (tableBytes nbits w ++ [0, 0]) with
    | .ok (i, _) => some i
    | .error _ => none

/-! ### The encoder -/

/-- The words of an instruction, row by row of `spec/opcode_table.json`: the opcode byte, or the escape
and the extended opcode, then the immediate, low byte first (R301, R304). -/
def encode : Instr → List Byte
  | .nop => [0x00]
  | .ld_BC_nn nn => [0x01, lowByte nn, highByte nn]
  | .ld_atBC_A => [0x02]
  | .inc_BC => [0x03]
  | .inc_B => [0x04]
  | .dec_B => [0x05]
  | .ld_B_n n => [0x06, n]
  | .rlca => [0x07]
  | .ld_atNn_SP nn => [0x08, lowByte nn, highByte nn]
  | .add_HL_BC => [0x09]
  | .ld_A_atBC => [0x0A]
  | .dec_BC => [0x0B]
  | .inc_C => [0x0C]
  | .dec_C => [0x0D]
  | .ld_C_n n => [0x0E, n]
  | .rrca => [0x0F]
  | .stop n => [0x10, n]
  | .ld_DE_nn nn => [0x11, lowByte nn, highByte nn]
  | .ld_atDE_A => [0x12]
  | .inc_DE => [0x13]
  | .inc_D => [0x14]
  | .dec_D => [0x15]
  | .ld_D_n n => [0x16, n]
  | .rla => [0x17]
  | .jr_e e => [0x18, e]
  | .add_HL_DE => [0x19]
  | .ld_A_atDE => [0x1A]
  | .dec_DE => [0x1B]
  | .inc_E => [0x1C]
  | .dec_E => [0x1D]
  | .ld_E_n n => [0x1E, n]
  | .rra => [0x1F]
  | .jr_NZ_e e => [0x20, e]
  | .ld_HL_nn nn => [0x21, lowByte nn, highByte nn]
  | .ld_atHLinc_A => [0x22]
  | .inc_HL => [0x23]
  | .inc_H => [0x24]
  | .dec_H => [0x25]
  | .ld_H_n n => [0x26, n]
  | .daa => [0x27]
  | .jr_Z_e e => [0x28, e]
  | .add_HL_HL => [0x29]
  | .ld_A_atHLinc => [0x2A]
  | .dec_HL => [0x2B]
  | .inc_L => [0x2C]
  | .dec_L => [0x2D]
  | .ld_L_n n => [0x2E, n]
  | .cpl => [0x2F]
  | .jr_NC_e e => [0x30, e]
  | .ld_SP_nn nn => [0x31, lowByte nn, highByte nn]
  | .ld_atHLdec_A => [0x32]
  | .inc_SP => [0x33]
  | .inc_atHL => [0x34]
  | .dec_atHL => [0x35]
  | .ld_atHL_n n => [0x36, n]
  | .scf => [0x37]
  | .jr_C_e e => [0x38, e]
  | .add_HL_SP => [0x39]
  | .ld_A_atHLdec => [0x3A]
  | .dec_SP => [0x3B]
  | .inc_A => [0x3C]
  | .dec_A => [0x3D]
  | .ld_A_n n => [0x3E, n]
  | .ccf => [0x3F]
  | .ld_B_B => [0x40]
  | .ld_B_C => [0x41]
  | .ld_B_D => [0x42]
  | .ld_B_E => [0x43]
  | .ld_B_H => [0x44]
  | .ld_B_L => [0x45]
  | .ld_B_atHL => [0x46]
  | .ld_B_A => [0x47]
  | .ld_C_B => [0x48]
  | .ld_C_C => [0x49]
  | .ld_C_D => [0x4A]
  | .ld_C_E => [0x4B]
  | .ld_C_H => [0x4C]
  | .ld_C_L => [0x4D]
  | .ld_C_atHL => [0x4E]
  | .ld_C_A => [0x4F]
  | .ld_D_B => [0x50]
  | .ld_D_C => [0x51]
  | .ld_D_D => [0x52]
  | .ld_D_E => [0x53]
  | .ld_D_H => [0x54]
  | .ld_D_L => [0x55]
  | .ld_D_atHL => [0x56]
  | .ld_D_A => [0x57]
  | .ld_E_B => [0x58]
  | .ld_E_C => [0x59]
  | .ld_E_D => [0x5A]
  | .ld_E_E => [0x5B]
  | .ld_E_H => [0x5C]
  | .ld_E_L => [0x5D]
  | .ld_E_atHL => [0x5E]
  | .ld_E_A => [0x5F]
  | .ld_H_B => [0x60]
  | .ld_H_C => [0x61]
  | .ld_H_D => [0x62]
  | .ld_H_E => [0x63]
  | .ld_H_H => [0x64]
  | .ld_H_L => [0x65]
  | .ld_H_atHL => [0x66]
  | .ld_H_A => [0x67]
  | .ld_L_B => [0x68]
  | .ld_L_C => [0x69]
  | .ld_L_D => [0x6A]
  | .ld_L_E => [0x6B]
  | .ld_L_H => [0x6C]
  | .ld_L_L => [0x6D]
  | .ld_L_atHL => [0x6E]
  | .ld_L_A => [0x6F]
  | .ld_atHL_B => [0x70]
  | .ld_atHL_C => [0x71]
  | .ld_atHL_D => [0x72]
  | .ld_atHL_E => [0x73]
  | .ld_atHL_H => [0x74]
  | .ld_atHL_L => [0x75]
  | .halt => [0x76]
  | .ld_atHL_A => [0x77]
  | .ld_A_B => [0x78]
  | .ld_A_C => [0x79]
  | .ld_A_D => [0x7A]
  | .ld_A_E => [0x7B]
  | .ld_A_H => [0x7C]
  | .ld_A_L => [0x7D]
  | .ld_A_atHL => [0x7E]
  | .ld_A_A => [0x7F]
  | .add_A_B => [0x80]
  | .add_A_C => [0x81]
  | .add_A_D => [0x82]
  | .add_A_E => [0x83]
  | .add_A_H => [0x84]
  | .add_A_L => [0x85]
  | .add_A_atHL => [0x86]
  | .add_A_A => [0x87]
  | .adc_A_B => [0x88]
  | .adc_A_C => [0x89]
  | .adc_A_D => [0x8A]
  | .adc_A_E => [0x8B]
  | .adc_A_H => [0x8C]
  | .adc_A_L => [0x8D]
  | .adc_A_atHL => [0x8E]
  | .adc_A_A => [0x8F]
  | .sub_B => [0x90]
  | .sub_C => [0x91]
  | .sub_D => [0x92]
  | .sub_E => [0x93]
  | .sub_H => [0x94]
  | .sub_L => [0x95]
  | .sub_atHL => [0x96]
  | .sub_A => [0x97]
  | .sbc_A_B => [0x98]
  | .sbc_A_C => [0x99]
  | .sbc_A_D => [0x9A]
  | .sbc_A_E => [0x9B]
  | .sbc_A_H => [0x9C]
  | .sbc_A_L => [0x9D]
  | .sbc_A_atHL => [0x9E]
  | .sbc_A_A => [0x9F]
  | .and_B => [0xA0]
  | .and_C => [0xA1]
  | .and_D => [0xA2]
  | .and_E => [0xA3]
  | .and_H => [0xA4]
  | .and_L => [0xA5]
  | .and_atHL => [0xA6]
  | .and_A => [0xA7]
  | .xor_B => [0xA8]
  | .xor_C => [0xA9]
  | .xor_D => [0xAA]
  | .xor_E => [0xAB]
  | .xor_H => [0xAC]
  | .xor_L => [0xAD]
  | .xor_atHL => [0xAE]
  | .xor_A => [0xAF]
  | .or_B => [0xB0]
  | .or_C => [0xB1]
  | .or_D => [0xB2]
  | .or_E => [0xB3]
  | .or_H => [0xB4]
  | .or_L => [0xB5]
  | .or_atHL => [0xB6]
  | .or_A => [0xB7]
  | .cp_B => [0xB8]
  | .cp_C => [0xB9]
  | .cp_D => [0xBA]
  | .cp_E => [0xBB]
  | .cp_H => [0xBC]
  | .cp_L => [0xBD]
  | .cp_atHL => [0xBE]
  | .cp_A => [0xBF]
  | .ret_NZ => [0xC0]
  | .pop_BC => [0xC1]
  | .jp_NZ_nn nn => [0xC2, lowByte nn, highByte nn]
  | .jp_nn nn => [0xC3, lowByte nn, highByte nn]
  | .call_NZ_nn nn => [0xC4, lowByte nn, highByte nn]
  | .push_BC => [0xC5]
  | .add_A_n n => [0xC6, n]
  | .rst_00 => [0xC7]
  | .ret_Z => [0xC8]
  | .ret => [0xC9]
  | .jp_Z_nn nn => [0xCA, lowByte nn, highByte nn]
  | .prefixCb => [0xCB]
  | .call_Z_nn nn => [0xCC, lowByte nn, highByte nn]
  | .call_nn nn => [0xCD, lowByte nn, highByte nn]
  | .adc_A_n n => [0xCE, n]
  | .rst_08 => [0xCF]
  | .ret_NC => [0xD0]
  | .pop_DE => [0xD1]
  | .jp_NC_nn nn => [0xD2, lowByte nn, highByte nn]
  | .illegal_D3 => [0xD3]
  | .call_NC_nn nn => [0xD4, lowByte nn, highByte nn]
  | .push_DE => [0xD5]
  | .sub_n n => [0xD6, n]
  | .rst_10 => [0xD7]
  | .ret_C => [0xD8]
  | .reti => [0xD9]
  | .jp_C_nn nn => [0xDA, lowByte nn, highByte nn]
  | .illegal_DB => [0xDB]
  | .call_C_nn nn => [0xDC, lowByte nn, highByte nn]
  | .illegal_DD => [0xDD]
  | .sbc_A_n n => [0xDE, n]
  | .rst_18 => [0xDF]
  | .ldh_atN_A n => [0xE0, n]
  | .pop_HL => [0xE1]
  | .ld_atC_A => [0xE2]
  | .illegal_E3 => [0xE3]
  | .illegal_E4 => [0xE4]
  | .push_HL => [0xE5]
  | .and_n n => [0xE6, n]
  | .rst_20 => [0xE7]
  | .add_SP_e e => [0xE8, e]
  | .jp_HL => [0xE9]
  | .ld_atNn_A nn => [0xEA, lowByte nn, highByte nn]
  | .illegal_EB => [0xEB]
  | .illegal_EC => [0xEC]
  | .illegal_ED => [0xED]
  | .xor_n n => [0xEE, n]
  | .rst_28 => [0xEF]
  | .ldh_A_atN n => [0xF0, n]
  | .pop_AF => [0xF1]
  | .ld_A_atC => [0xF2]
  | .di => [0xF3]
  | .illegal_F4 => [0xF4]
  | .push_AF => [0xF5]
  | .or_n n => [0xF6, n]
  | .rst_30 => [0xF7]
  | .ld_HL_SPe e => [0xF8, e]
  | .ld_SP_HL => [0xF9]
  | .ld_A_atNn nn => [0xFA, lowByte nn, highByte nn]
  | .ei => [0xFB]
  | .illegal_FC => [0xFC]
  | .illegal_FD => [0xFD]
  | .cp_n n => [0xFE, n]
  | .rst_38 => [0xFF]
  | .rlc_B => [0xCB, 0x00]
  | .rlc_C => [0xCB, 0x01]
  | .rlc_D => [0xCB, 0x02]
  | .rlc_E => [0xCB, 0x03]
  | .rlc_H => [0xCB, 0x04]
  | .rlc_L => [0xCB, 0x05]
  | .rlc_atHL => [0xCB, 0x06]
  | .rlc_A => [0xCB, 0x07]
  | .rrc_B => [0xCB, 0x08]
  | .rrc_C => [0xCB, 0x09]
  | .rrc_D => [0xCB, 0x0A]
  | .rrc_E => [0xCB, 0x0B]
  | .rrc_H => [0xCB, 0x0C]
  | .rrc_L => [0xCB, 0x0D]
  | .rrc_atHL => [0xCB, 0x0E]
  | .rrc_A => [0xCB, 0x0F]
  | .rl_B => [0xCB, 0x10]
  | .rl_C => [0xCB, 0x11]
  | .rl_D => [0xCB, 0x12]
  | .rl_E => [0xCB, 0x13]
  | .rl_H => [0xCB, 0x14]
  | .rl_L => [0xCB, 0x15]
  | .rl_atHL => [0xCB, 0x16]
  | .rl_A => [0xCB, 0x17]
  | .rr_B => [0xCB, 0x18]
  | .rr_C => [0xCB, 0x19]
  | .rr_D => [0xCB, 0x1A]
  | .rr_E => [0xCB, 0x1B]
  | .rr_H => [0xCB, 0x1C]
  | .rr_L => [0xCB, 0x1D]
  | .rr_atHL => [0xCB, 0x1E]
  | .rr_A => [0xCB, 0x1F]
  | .sla_B => [0xCB, 0x20]
  | .sla_C => [0xCB, 0x21]
  | .sla_D => [0xCB, 0x22]
  | .sla_E => [0xCB, 0x23]
  | .sla_H => [0xCB, 0x24]
  | .sla_L => [0xCB, 0x25]
  | .sla_atHL => [0xCB, 0x26]
  | .sla_A => [0xCB, 0x27]
  | .sra_B => [0xCB, 0x28]
  | .sra_C => [0xCB, 0x29]
  | .sra_D => [0xCB, 0x2A]
  | .sra_E => [0xCB, 0x2B]
  | .sra_H => [0xCB, 0x2C]
  | .sra_L => [0xCB, 0x2D]
  | .sra_atHL => [0xCB, 0x2E]
  | .sra_A => [0xCB, 0x2F]
  | .swap_B => [0xCB, 0x30]
  | .swap_C => [0xCB, 0x31]
  | .swap_D => [0xCB, 0x32]
  | .swap_E => [0xCB, 0x33]
  | .swap_H => [0xCB, 0x34]
  | .swap_L => [0xCB, 0x35]
  | .swap_atHL => [0xCB, 0x36]
  | .swap_A => [0xCB, 0x37]
  | .srl_B => [0xCB, 0x38]
  | .srl_C => [0xCB, 0x39]
  | .srl_D => [0xCB, 0x3A]
  | .srl_E => [0xCB, 0x3B]
  | .srl_H => [0xCB, 0x3C]
  | .srl_L => [0xCB, 0x3D]
  | .srl_atHL => [0xCB, 0x3E]
  | .srl_A => [0xCB, 0x3F]
  | .bit_0_B => [0xCB, 0x40]
  | .bit_0_C => [0xCB, 0x41]
  | .bit_0_D => [0xCB, 0x42]
  | .bit_0_E => [0xCB, 0x43]
  | .bit_0_H => [0xCB, 0x44]
  | .bit_0_L => [0xCB, 0x45]
  | .bit_0_atHL => [0xCB, 0x46]
  | .bit_0_A => [0xCB, 0x47]
  | .bit_1_B => [0xCB, 0x48]
  | .bit_1_C => [0xCB, 0x49]
  | .bit_1_D => [0xCB, 0x4A]
  | .bit_1_E => [0xCB, 0x4B]
  | .bit_1_H => [0xCB, 0x4C]
  | .bit_1_L => [0xCB, 0x4D]
  | .bit_1_atHL => [0xCB, 0x4E]
  | .bit_1_A => [0xCB, 0x4F]
  | .bit_2_B => [0xCB, 0x50]
  | .bit_2_C => [0xCB, 0x51]
  | .bit_2_D => [0xCB, 0x52]
  | .bit_2_E => [0xCB, 0x53]
  | .bit_2_H => [0xCB, 0x54]
  | .bit_2_L => [0xCB, 0x55]
  | .bit_2_atHL => [0xCB, 0x56]
  | .bit_2_A => [0xCB, 0x57]
  | .bit_3_B => [0xCB, 0x58]
  | .bit_3_C => [0xCB, 0x59]
  | .bit_3_D => [0xCB, 0x5A]
  | .bit_3_E => [0xCB, 0x5B]
  | .bit_3_H => [0xCB, 0x5C]
  | .bit_3_L => [0xCB, 0x5D]
  | .bit_3_atHL => [0xCB, 0x5E]
  | .bit_3_A => [0xCB, 0x5F]
  | .bit_4_B => [0xCB, 0x60]
  | .bit_4_C => [0xCB, 0x61]
  | .bit_4_D => [0xCB, 0x62]
  | .bit_4_E => [0xCB, 0x63]
  | .bit_4_H => [0xCB, 0x64]
  | .bit_4_L => [0xCB, 0x65]
  | .bit_4_atHL => [0xCB, 0x66]
  | .bit_4_A => [0xCB, 0x67]
  | .bit_5_B => [0xCB, 0x68]
  | .bit_5_C => [0xCB, 0x69]
  | .bit_5_D => [0xCB, 0x6A]
  | .bit_5_E => [0xCB, 0x6B]
  | .bit_5_H => [0xCB, 0x6C]
  | .bit_5_L => [0xCB, 0x6D]
  | .bit_5_atHL => [0xCB, 0x6E]
  | .bit_5_A => [0xCB, 0x6F]
  | .bit_6_B => [0xCB, 0x70]
  | .bit_6_C => [0xCB, 0x71]
  | .bit_6_D => [0xCB, 0x72]
  | .bit_6_E => [0xCB, 0x73]
  | .bit_6_H => [0xCB, 0x74]
  | .bit_6_L => [0xCB, 0x75]
  | .bit_6_atHL => [0xCB, 0x76]
  | .bit_6_A => [0xCB, 0x77]
  | .bit_7_B => [0xCB, 0x78]
  | .bit_7_C => [0xCB, 0x79]
  | .bit_7_D => [0xCB, 0x7A]
  | .bit_7_E => [0xCB, 0x7B]
  | .bit_7_H => [0xCB, 0x7C]
  | .bit_7_L => [0xCB, 0x7D]
  | .bit_7_atHL => [0xCB, 0x7E]
  | .bit_7_A => [0xCB, 0x7F]
  | .res_0_B => [0xCB, 0x80]
  | .res_0_C => [0xCB, 0x81]
  | .res_0_D => [0xCB, 0x82]
  | .res_0_E => [0xCB, 0x83]
  | .res_0_H => [0xCB, 0x84]
  | .res_0_L => [0xCB, 0x85]
  | .res_0_atHL => [0xCB, 0x86]
  | .res_0_A => [0xCB, 0x87]
  | .res_1_B => [0xCB, 0x88]
  | .res_1_C => [0xCB, 0x89]
  | .res_1_D => [0xCB, 0x8A]
  | .res_1_E => [0xCB, 0x8B]
  | .res_1_H => [0xCB, 0x8C]
  | .res_1_L => [0xCB, 0x8D]
  | .res_1_atHL => [0xCB, 0x8E]
  | .res_1_A => [0xCB, 0x8F]
  | .res_2_B => [0xCB, 0x90]
  | .res_2_C => [0xCB, 0x91]
  | .res_2_D => [0xCB, 0x92]
  | .res_2_E => [0xCB, 0x93]
  | .res_2_H => [0xCB, 0x94]
  | .res_2_L => [0xCB, 0x95]
  | .res_2_atHL => [0xCB, 0x96]
  | .res_2_A => [0xCB, 0x97]
  | .res_3_B => [0xCB, 0x98]
  | .res_3_C => [0xCB, 0x99]
  | .res_3_D => [0xCB, 0x9A]
  | .res_3_E => [0xCB, 0x9B]
  | .res_3_H => [0xCB, 0x9C]
  | .res_3_L => [0xCB, 0x9D]
  | .res_3_atHL => [0xCB, 0x9E]
  | .res_3_A => [0xCB, 0x9F]
  | .res_4_B => [0xCB, 0xA0]
  | .res_4_C => [0xCB, 0xA1]
  | .res_4_D => [0xCB, 0xA2]
  | .res_4_E => [0xCB, 0xA3]
  | .res_4_H => [0xCB, 0xA4]
  | .res_4_L => [0xCB, 0xA5]
  | .res_4_atHL => [0xCB, 0xA6]
  | .res_4_A => [0xCB, 0xA7]
  | .res_5_B => [0xCB, 0xA8]
  | .res_5_C => [0xCB, 0xA9]
  | .res_5_D => [0xCB, 0xAA]
  | .res_5_E => [0xCB, 0xAB]
  | .res_5_H => [0xCB, 0xAC]
  | .res_5_L => [0xCB, 0xAD]
  | .res_5_atHL => [0xCB, 0xAE]
  | .res_5_A => [0xCB, 0xAF]
  | .res_6_B => [0xCB, 0xB0]
  | .res_6_C => [0xCB, 0xB1]
  | .res_6_D => [0xCB, 0xB2]
  | .res_6_E => [0xCB, 0xB3]
  | .res_6_H => [0xCB, 0xB4]
  | .res_6_L => [0xCB, 0xB5]
  | .res_6_atHL => [0xCB, 0xB6]
  | .res_6_A => [0xCB, 0xB7]
  | .res_7_B => [0xCB, 0xB8]
  | .res_7_C => [0xCB, 0xB9]
  | .res_7_D => [0xCB, 0xBA]
  | .res_7_E => [0xCB, 0xBB]
  | .res_7_H => [0xCB, 0xBC]
  | .res_7_L => [0xCB, 0xBD]
  | .res_7_atHL => [0xCB, 0xBE]
  | .res_7_A => [0xCB, 0xBF]
  | .set_0_B => [0xCB, 0xC0]
  | .set_0_C => [0xCB, 0xC1]
  | .set_0_D => [0xCB, 0xC2]
  | .set_0_E => [0xCB, 0xC3]
  | .set_0_H => [0xCB, 0xC4]
  | .set_0_L => [0xCB, 0xC5]
  | .set_0_atHL => [0xCB, 0xC6]
  | .set_0_A => [0xCB, 0xC7]
  | .set_1_B => [0xCB, 0xC8]
  | .set_1_C => [0xCB, 0xC9]
  | .set_1_D => [0xCB, 0xCA]
  | .set_1_E => [0xCB, 0xCB]
  | .set_1_H => [0xCB, 0xCC]
  | .set_1_L => [0xCB, 0xCD]
  | .set_1_atHL => [0xCB, 0xCE]
  | .set_1_A => [0xCB, 0xCF]
  | .set_2_B => [0xCB, 0xD0]
  | .set_2_C => [0xCB, 0xD1]
  | .set_2_D => [0xCB, 0xD2]
  | .set_2_E => [0xCB, 0xD3]
  | .set_2_H => [0xCB, 0xD4]
  | .set_2_L => [0xCB, 0xD5]
  | .set_2_atHL => [0xCB, 0xD6]
  | .set_2_A => [0xCB, 0xD7]
  | .set_3_B => [0xCB, 0xD8]
  | .set_3_C => [0xCB, 0xD9]
  | .set_3_D => [0xCB, 0xDA]
  | .set_3_E => [0xCB, 0xDB]
  | .set_3_H => [0xCB, 0xDC]
  | .set_3_L => [0xCB, 0xDD]
  | .set_3_atHL => [0xCB, 0xDE]
  | .set_3_A => [0xCB, 0xDF]
  | .set_4_B => [0xCB, 0xE0]
  | .set_4_C => [0xCB, 0xE1]
  | .set_4_D => [0xCB, 0xE2]
  | .set_4_E => [0xCB, 0xE3]
  | .set_4_H => [0xCB, 0xE4]
  | .set_4_L => [0xCB, 0xE5]
  | .set_4_atHL => [0xCB, 0xE6]
  | .set_4_A => [0xCB, 0xE7]
  | .set_5_B => [0xCB, 0xE8]
  | .set_5_C => [0xCB, 0xE9]
  | .set_5_D => [0xCB, 0xEA]
  | .set_5_E => [0xCB, 0xEB]
  | .set_5_H => [0xCB, 0xEC]
  | .set_5_L => [0xCB, 0xED]
  | .set_5_atHL => [0xCB, 0xEE]
  | .set_5_A => [0xCB, 0xEF]
  | .set_6_B => [0xCB, 0xF0]
  | .set_6_C => [0xCB, 0xF1]
  | .set_6_D => [0xCB, 0xF2]
  | .set_6_E => [0xCB, 0xF3]
  | .set_6_H => [0xCB, 0xF4]
  | .set_6_L => [0xCB, 0xF5]
  | .set_6_atHL => [0xCB, 0xF6]
  | .set_6_A => [0xCB, 0xF7]
  | .set_7_B => [0xCB, 0xF8]
  | .set_7_C => [0xCB, 0xF9]
  | .set_7_D => [0xCB, 0xFA]
  | .set_7_E => [0xCB, 0xFB]
  | .set_7_H => [0xCB, 0xFC]
  | .set_7_L => [0xCB, 0xFD]
  | .set_7_atHL => [0xCB, 0xFE]
  | .set_7_A => [0xCB, 0xFF]

end Sys2Proof
end

