-- ==== Sys2Proof/Config.lean ====
section
/-! DEFINITION. The free values of the model: the open parameters of `00_scope.md` R8 that a reset
needs. They have no body, so no proof can see what they are. -/
namespace Sys2Proof

/-- The parameter `reset_if` (R8, R115, D20): IF after reset, any byte. Log entry 5. -/
opaque Config.resetIf : Byte

/-- The parameter `io_initial` (R8, R207, D21): the contents of I/O byte `0xFF00 + k` after reset,
any byte; `k` = 0x0F is never observed, because that address is IF. Log entry 6. -/
opaque Config.ioInitial : Nat → Byte

end Sys2Proof
end

