-- ==== Sys2Proof/Machine/State.lean ====
section
/-! DEFINITION. The state of the CORE (`10_state.md` R100 to R115), as plain data, and its value after
reset. -/
namespace Sys2Proof.Machine

/-- A sparse byte store: pairs of address and byte, addresses strictly rising, no entry equal to what
an unlisted address reads as (`Memory.unlisted`, `RomImage.fill`). -/
abbrev Memory := List Host.Cell

/-- The flag register F: its four flags. Bits 3:0 of F are hardwired zero and are no state (R103, D37;
log entry 17). -/
structure Flags where
  /-- Bit 7, Zero. -/
  z : Bool
  /-- Bit 6, Subtract. -/
  n : Bool
  /-- Bit 5, Half-carry. -/
  h : Bool
  /-- Bit 4, Carry. -/
  c : Bool
  deriving DecidableEq, Repr

/-- The two faults of the CORE with their records (R108). They are entered as a next state in the run
state Faulted (log entry 3); no step answers with a fault outcome. -/
inductive Fault where
  /-- An illegal opcode byte was executed (R840): its address and the byte. Raised by the eleven illegal
  opcodes. Safe: the hardware stops as well. -/
  | illegalOpcode (pc : Word) (op : Byte)
  /-- A RAM byte that nothing wrote since reset was read (R206, R841): its address and the address of the
  instruction's first byte. Raised by any fetch, load or pop. Safe: the model stops where the hardware
  reads some unknown byte. -/
  | uninitializedRead (addr pc : Word)
  deriving DecidableEq, Repr

/-- Why a step has no meaning. -/
inductive Refusal where
  /-- An instruction whose meaning is not written. Raised by no arm of `exec`. Safe. -/
  | notModelled (mnemonic : String)
  /-- The fetched bytes decode to no instruction. Raised by the sequencer only, and never: it fetches as
  many bytes as the first one asks for. Safe. -/
  | undecodable
  deriving DecidableEq, Repr

/-- The CPU run state (R107), with the fault record where it exists (R108). -/
inductive RunState where
  | running
  | halted
  | stopped
  | faulted (record : Fault)
  deriving DecidableEq, Repr

/-- What a step returns to the host (`00_scope.md` R9, `60_exceptions.md` R824). -/
inductive StepResult where
  | executed (cycles : Nat)
  | serviced (vector : Word) (cycles : Nat)
  | idle
  | fault (record : Fault)
  | noStep
  deriving DecidableEq, Repr

/-- The banking scheme of the cartridge (R112). -/
inductive Scheme where
  | none
  | mbc1
  deriving DecidableEq, Repr

/-- The banking mode flag (R112, `20_memory.md` R223): bit value 0 is ROM banking, 1 RAM banking. -/
inductive BankMode where
  | romBanking
  | ramBanking
  deriving DecidableEq, Repr

/-- The banking-controller registers (R112). -/
structure Banking where
  ramEnable : Bool
  romBankLow : BitVec 5
  bankHigh : BitVec 2
  bankMode : BankMode
  deriving DecidableEq, Repr

/-- The ROM image: its length, and its bytes other than 0x00 by offset (R112; log entry 9). -/
structure RomImage where
  size : Nat
  cells : Memory
  deriving DecidableEq, Repr

/-- The cartridge RAM image: its length, and its written bytes by offset (R112, R114). -/
structure RamImage where
  size : Nat
  cells : Memory
  deriving DecidableEq, Repr

/-- What `loadImage` installs (R112, `20_memory.md` R244). `ramInit` keeps `cart_ram_init`, which every
reset applies again (D42; log entry 8). -/
structure Cartridge where
  scheme : Scheme
  rom : RomImage
  ram : Option RamImage
  ramInit : Memory
  deriving DecidableEq, Repr

/-- The state of the CORE. -/
structure State where
  /-- The accumulator A (R101). -/
  a : Byte
  /-- Register B (R101). -/
  b : Byte
  /-- Register C (R101). -/
  c : Byte
  /-- Register D (R101). -/
  d : Byte
  /-- Register E (R101). -/
  e : Byte
  /-- Register H (R101). -/
  h : Byte
  /-- Register L (R101). -/
  l : Byte
  /-- The flag register F (R103). -/
  f : Flags
  /-- The stack pointer (R105). -/
  sp : Word
  /-- The program counter: the next byte to fetch (R106). -/
  pc : Word
  /-- The run state and the fault record (R107, R108). -/
  run : RunState
  /-- The enable mask IE, address 0xFFFF (R109). -/
  ieReg : Byte
  /-- The pending mask IF, address 0xFF0F (R109). -/
  ifReg : Byte
  /-- The master enable IME (R109). -/
  ime : Bool
  /-- The delayed-enable counter `ei_delay` (R110). -/
  eiDelay : Fin 3
  /-- The HALT-repeat latch `halt_repeat` (R111). -/
  haltRepeat : Bool
  /-- The cartridge, if an image is loaded (R112, `70_reset_and_hazards.md` R901). -/
  cart : Option Cartridge
  /-- The banking-controller registers (R112). -/
  bank : Banking
  /-- The written bytes of `vram`, `wram`, `oam` and `hram`, by CPU address (R113, R114). -/
  mem : Memory
  /-- The I/O register bank; entry 0x0F is never used, that byte is IF (R113; log entry 13). -/
  io : Vector Byte 128
  /-- The parameter `halt_bug` (R8, R111); no step changes it (log entry 7). -/
  haltBug : Bool
  /-- The model's own: the address of the running instruction's first byte, `start` of R820 (log
  entry 11). -/
  start : Word
  /-- The model's own: what the last step returned (R824; log entry 12). -/
  report : StepResult
  deriving DecidableEq, Repr

/-- The banking controller after reset (R115, D19). -/
def Banking.reset : Banking :=
  { ramEnable := false, romBankLow := 1, bankHigh := 0, bankMode := .romBanking }

/-- The I/O bank after reset: the parameter `io_initial` (R115, D21). -/
def ioReset : Vector Byte 128 :=
  ⟨((List.range 128).map Config.ioInitial).toArray, by simp⟩

/-- The machine right after power-on reset (R115, `70_reset_and_hazards.md` R900), with no image loaded
yet (R901; log entry 1). -/
def State.reset : State where
  a := 0x01
  b := 0x00
  c := 0x13
  d := 0x00
  e := 0xD8
  h := 0x01
  l := 0x4D
  f := { z := true, n := false, h := true, c := true }
  sp := 0xFFFE
  pc := 0x0100
  run := .running
  ieReg := 0x00
  ifReg := Config.resetIf
  ime := false
  eiDelay := 0
  haltRepeat := false
  cart := none
  bank := Banking.reset
  mem := []
  io := ioReset
  haltBug := false
  start := 0x0100
  report := .noStep

end Sys2Proof.Machine
end

