-- ==== Sys2Proof/Machine/Operands.lean ====
section
/-! DEFINITION. The operand forms: registers, pairs, conditions, bit numbers, displacements
(`00_scope.md` R13, `10_state.md` R101 to R103, `30_encoding.md` R304 to R313). -/
namespace Sys2Proof.Machine

/-- What a meaning answers. -/
abbrev Result := Host.Outcome State Fault Refusal

/-! ### The flag register as a byte (R103) -/

/-- The byte F: Z, N, H, C in bits 7 to 4, zero in bits 3:0. -/
def Flags.toByte (f : Flags) : Byte :=
  BitVec.ofBool f.z ++ BitVec.ofBool f.n ++ BitVec.ofBool f.h ++ BitVec.ofBool f.c ++ 0#4

/-- A write of byte `v` to F: bits 3:0 are discarded (R103, D37). -/
def Flags.ofByte (v : Byte) : Flags :=
  { z := v.getLsbD 7, n := v.getLsbD 6, h := v.getLsbD 5, c := v.getLsbD 4 }

/-! ### 8-bit registers -/

/-- `x[r]` (R13). -/
def State.reg (s : State) : Reg8 → Byte
  | .b => s.b
  | .c => s.c
  | .d => s.d
  | .e => s.e
  | .h => s.h
  | .l => s.l
  | .a => s.a

/-- `x[r] <- v` (R13). -/
def State.setReg (s : State) (r : Reg8) (v : Byte) : State :=
  match r with
  | .b => { s with b := v }
  | .c => { s with c := v }
  | .d => { s with d := v }
  | .e => { s with e := v }
  | .h => { s with h := v }
  | .l => { s with l := v }
  | .a => { s with a := v }

/-! ### Register pairs (R102) -/

/-- BC = B:C. -/
def State.bc (s : State) : Word := wordOf s.b s.c

/-- DE = D:E. -/
def State.de (s : State) : Word := wordOf s.d s.e

/-- HL = H:L. -/
def State.hl (s : State) : Word := wordOf s.h s.l

/-- AF = A:F. -/
def State.af (s : State) : Word := wordOf s.a s.f.toByte

/-- A write of HL writes H and L (R102). -/
def State.setHL (s : State) (v : Word) : State :=
  { s with h := highByte v, l := lowByte v }

/-- `x[rr]` for the pair code `rp` (R311). -/
def State.pair (s : State) : RegPair → Word
  | .bc => s.bc
  | .de => s.de
  | .hl => s.hl
  | .sp => s.sp

/-- `x[rr] <- v` for the pair code `rp` (R311). -/
def State.setPair (s : State) (p : RegPair) (v : Word) : State :=
  match p with
  | .bc => { s with b := highByte v, c := lowByte v }
  | .de => { s with d := highByte v, e := lowByte v }
  | .hl => s.setHL v
  | .sp => { s with sp := v }

/-- `x[rr]` for the pair code `rp2` (R312). -/
def State.stackPair (s : State) : StackPair → Word
  | .bc => s.bc
  | .de => s.de
  | .hl => s.hl
  | .af => s.af

/-- `x[rr] <- v` for the pair code `rp2` (R312); F takes bits 7:4 of the low byte only (R103). -/
def State.setStackPair (s : State) (p : StackPair) (v : Word) : State :=
  match p with
  | .bc => { s with b := highByte v, c := lowByte v }
  | .de => { s with d := highByte v, e := lowByte v }
  | .hl => s.setHL v
  | .af => { s with a := highByte v, f := Flags.ofByte (lowByte v) }

/-! ### Conditions, bit numbers, addresses -/

/-- `cond(cc)` (R313, `46_control.md` R700). -/
def Flags.cond (f : Flags) : Cond → Bool
  | .nz => !f.z
  | .z => f.z
  | .nc => !f.c
  | .c => f.c

/-- The bit number of `b` in BIT, RES and SET. -/
def bitNumber : BitIx → Nat
  | .b0 => 0
  | .b1 => 1
  | .b2 => 2
  | .b3 => 3
  | .b4 => 4
  | .b5 => 5
  | .b6 => 6
  | .b7 => 7

/-- `0xFF00 + n` (R304). -/
def highPage (n : Byte) : Word := wordOf 0xFF n

/-- `sext_16(e)` (R12, R304). -/
def displacement (e : Byte) : Word := e.signExtend 16

end Sys2Proof.Machine
end

