-- ==== Sys2Proof/Machine/Flags.lean ====
section
/-! DEFINITION. The flag engine: the result and the flags of every ALU operation (`42_alu8.md` R500 to
R505, R534 to R541; `43_alu16.md` R550, R551; `44_rotate_shift.md` R600). Sums and comparisons the spec
takes unwrapped are taken on natural numbers or integers. -/
namespace Sys2Proof.Machine

/-- A carry or borrow as a number. -/
def bit (c : Bool) : Nat := if c then 1 else 0

/-- `v & 0xF`, as a number. -/
def lowNibble (v : Byte) : Nat := v.toNat % 16

/-- `add8` (R500). -/
def add8 (a b : Byte) (cin : Bool) : Byte × Flags :=
  let sum := a.toNat + b.toNat + bit cin
  let result := BitVec.ofNat 8 sum
  (result,
    { z := result == 0, n := false,
      h := decide (lowNibble a + lowNibble b + bit cin > 0xF),
      c := decide (sum > 0xFF) })

/-- `sub8` (R501). -/
def sub8 (a b : Byte) (bin : Bool) : Byte × Flags :=
  let result := a - b - BitVec.ofNat 8 (bit bin)
  (result,
    { z := result == 0, n := true,
      h := decide (lowNibble a < lowNibble b + bit bin),
      c := decide (a.toNat < b.toNat + bit bin) })

/-- `and8` (R502). -/
def and8 (a b : Byte) : Byte × Flags :=
  (a &&& b, { z := a &&& b == 0, n := false, h := true, c := false })

/-- `or8` (R503). -/
def or8 (a b : Byte) : Byte × Flags :=
  (a ||| b, { z := a ||| b == 0, n := false, h := false, c := false })

/-- `xor8` (R504). -/
def xor8 (a b : Byte) : Byte × Flags :=
  (a ^^^ b, { z := a ^^^ b == 0, n := false, h := false, c := false })

/-- The ALU operation `op` on A and `v`: the new A and the flags (R510 to R533). CP keeps A. -/
def alu (op : AluOp) (a v : Byte) (f : Flags) : Byte × Flags :=
  match op with
  | .add => add8 a v false
  | .adc => add8 a v f.c
  | .sub => sub8 a v false
  | .sbc => sub8 a v f.c
  | .and => and8 a v
  | .xor => xor8 a v
  | .or => or8 a v
  | .cp => (a, (sub8 a v false).2)

/-- The increment of an 8-bit value; the carry flag is kept (R534). -/
def inc8 (v : Byte) (f : Flags) : Byte × Flags :=
  (v + 1, { f with z := v + 1 == 0, n := false, h := decide (lowNibble v + 1 > 0xF) })

/-- The decrement of an 8-bit value; the carry flag is kept (R536). -/
def dec8 (v : Byte) (f : Flags) : Byte × Flags :=
  (v - 1, { f with z := v - 1 == 0, n := true, h := decide (lowNibble v < 1) })

/-- DAA (R538, D31): the corrections in the source's order, on the unwrapped value `w`. -/
def daa (a : Byte) (f : Flags) : Byte × Flags :=
  let w : Int := a.toNat
  let adjusted : Int × Bool :=
    if f.n then
      let w := if f.h then w - 0x06 else w
      (if f.c then w - 0x60 else w, f.c)
    else
      let w := if f.h || decide (lowNibble a > 9) then w + 0x06 else w
      if f.c || decide (w > 0x99) then (w + 0x60, true) else (w, f.c)
  let result := BitVec.ofInt 8 adjusted.1
  (result, { z := result == 0, n := f.n, h := false, c := adjusted.2 })

/-- `add16` (R550): fZ is kept. -/
def add16 (a b : Word) (f : Flags) : Word × Flags :=
  let sum := a.toNat + b.toNat
  (BitVec.ofNat 16 sum,
    { z := f.z, n := false,
      h := decide (a.toNat % 0x1000 + b.toNat % 0x1000 > 0xFFF),
      c := decide (sum > 0xFFFF) })

/-- `addSPe` (R551): the carries are those of adding the unsigned byte `e` to the low byte. -/
def addSPe (sp : Word) (e : Byte) : Word × Flags :=
  (sp + displacement e,
    { z := false, n := false,
      h := decide (sp.toNat % 0x10 + lowNibble e > 0xF),
      c := decide (sp.toNat % 0x100 + e.toNat > 0xFF) })

/-- The shift unit (R600): the result and the bit shifted out. -/
def shift (op : ShiftOp) (v : Byte) (cin : Bool) : Byte × Bool :=
  match op with
  | .rlc => ((v <<< 1) ||| (v >>> 7), v.getLsbD 7)
  | .rrc => ((v >>> 1) ||| (v <<< 7), v.getLsbD 0)
  | .rl => ((v <<< 1) ||| BitVec.ofNat 8 (bit cin), v.getLsbD 7)
  | .rr => ((v >>> 1) ||| (BitVec.ofNat 8 (bit cin) <<< 7), v.getLsbD 0)
  | .sla => (v <<< 1, v.getLsbD 7)
  | .sra => ((v >>> 1) ||| (v &&& 0x80), v.getLsbD 0)
  | .swap => ((v <<< 4) ||| (v >>> 4), false)
  | .srl => (v >>> 1, v.getLsbD 0)

/-- The flags a rotate or shift writes, with fZ as its rule says (R600). -/
def shiftFlags (z cout : Bool) : Flags := { z := z, n := false, h := false, c := cout }

/-- The flags of BIT: fC is kept (R650). -/
def bitFlags (v : Byte) (b : BitIx) (f : Flags) : Flags :=
  { f with z := !v.getLsbD (bitNumber b), n := false, h := true }

/-- The byte RES leaves (R652). -/
def resetBit (v : Byte) (b : BitIx) : Byte := v &&& ~~~(1#8 <<< bitNumber b)

/-- The byte SET leaves (R654). -/
def setBit (v : Byte) (b : BitIx) : Byte := v ||| (1#8 <<< bitNumber b)

end Sys2Proof.Machine
end

