-- ==== Sys2Proof/Machine/Ops.lean ====
section
/-! DEFINITION. The shared operations: the byte store, the cartridge, the address decoder, the stack,
the two faults, and interrupt dispatch with the return from it (`20_memory.md`, `00_scope.md` R14, R15,
`60_exceptions.md`). -/
namespace Sys2Proof.Machine

/-! ### The byte store -/

/-- What an unlisted address of `mem` or of the cartridge RAM reads as: no value, so that reading a byte
nothing has written faults (`20_memory.md` R206, D21). -/
def Memory.unlisted (_ : Nat) : Option Byte := none

/-- The byte listed at an address. -/
def Memory.read : Memory → Nat → Option Byte
  | [], a => Memory.unlisted a
  | (k, v) :: m, a => if a = k then some v else Memory.read m a

/-- List a byte at an address, keeping the addresses rising. -/
def Memory.write : Memory → Nat → Byte → Memory
  | [], a, v => [(a, v)]
  | (k, w) :: m, a, v =>
    if a < k then (a, v) :: (k, w) :: m
    else if a = k then (a, v) :: m
    else (k, w) :: Memory.write m a v

/-- The canonical form: addresses strictly rising. An entry never equals what an unlisted address reads
as, since that is no value. -/
abbrev Memory.wf (m : Memory) : Prop := m.Pairwise (fun p q => p.1 < q.1)

/-! ### The cartridge (`20_memory.md` R210 to R228) -/

/-- What an unlisted offset of a ROM image holds (log entry 9). -/
def RomImage.fill : Byte := 0x00

/-- `rom[off]`, or 0xFF past the image (R226, R227, D15). -/
def RomImage.read (r : RomImage) (off : Nat) : Byte :=
  if off < r.size then (r.cells.read off).getD RomImage.fill else 0xFF

/-- The effective ROM bank (R224). -/
def Banking.romBank (k : Banking) : Nat :=
  match k.bankMode with
  | .romBanking => k.bankHigh.toNat * 32 + k.romBankLow.toNat
  | .ramBanking => k.romBankLow.toNat

/-- The effective RAM bank (R225). -/
def Banking.ramBank (k : Banking) : Nat :=
  match k.bankMode with
  | .romBanking => 0
  | .ramBanking => k.bankHigh.toNat

/-- The offset into the ROM image that an address below 0x8000 reads (R211, R226, R227). -/
def romOffset (c : Cartridge) (k : Banking) (a : Word) : Nat :=
  match c.scheme with
  | .none => a.toNat
  | .mbc1 =>
    if a.toNat < 0x4000 then a.toNat
    else k.romBank * 0x4000 + (a.toNat - 0x4000)

/-- `readROM` (R211, R226, R227); open bus with no image loaded (log entry 10). -/
def State.readROM (s : State) (a : Word) : Byte :=
  match s.cart with
  | some c => c.rom.read (romOffset c s.bank a)
  | none => 0xFF

/-- The banking register a write below 0x8000 changes (R220 to R223). -/
def Banking.write (k : Banking) (a : Word) (v : Byte) : Banking :=
  if a.toNat < 0x2000 then { k with ramEnable := v.extractLsb' 0 4 == 0xA }
  else if a.toNat < 0x4000 then
    { k with romBankLow := if v.extractLsb' 0 5 = 0 then 1 else v.extractLsb' 0 5 }
  else if a.toNat < 0x6000 then { k with bankHigh := v.extractLsb' 0 2 }
  else { k with bankMode := if v.getLsbD 0 then .ramBanking else .romBanking }

/-- `writeROM`: never changes ROM; with MBC1 it writes a banking register (R202, R211, R220 to R223). -/
def State.writeROM (s : State) (a : Word) (v : Byte) : State :=
  match s.cart with
  | some c =>
    match c.scheme with
    | .none => s
    | .mbc1 => { s with bank := s.bank.write a v }
  | none => s

/-- The offset into the cartridge RAM that an address of its window names (R228). -/
def ramOffset (k : Banking) (a : Word) : Nat := k.ramBank * 0x2000 + (a.toNat - 0xA000)

/-- The cartridge RAM the window reaches at an address, with the offset: none where the scheme is None,
the RAM is disabled or absent, or the offset is past it (R211, R228, D14, D16, D17, D39). -/
def State.mappedRam (s : State) (a : Word) : Option (Cartridge × RamImage × Nat) :=
  match s.cart with
  | none => none
  | some c =>
    match c.scheme, c.ram with
    | .mbc1, some r =>
      if s.bank.ramEnable && decide (ramOffset s.bank a < r.size) then
        some (c, r, ramOffset s.bank a)
      else none
    | _, _ => none

/-- `readRAM` (R211, R228); none is a byte not written since reset (R206). -/
def State.readRAM (s : State) (a : Word) : Option Byte :=
  match s.mappedRam a with
  | some (_, r, off) => r.cells.read off
  | none => some 0xFF

/-- `writeRAM` (R211, R228). -/
def State.writeRAM (s : State) (a : Word) (v : Byte) : State :=
  match s.mappedRam a with
  | some (c, r, off) =>
    { s with cart := some { c with ram := some { r with cells := r.cells.write off v } } }
  | none => s

/-! ### The address decoder (`20_memory.md` R200 to R208) -/

/-- The regions of the address map (R201). `array` is a byte of `vram`, `wram`, `oam` or `hram`. -/
inductive Region where
  | rom
  | cartRam
  | array
  | echo
  | unmapped
  | io
  | ifByte
  | ieByte
  deriving DecidableEq, Repr

/-- The region of an address, testing the ranges in the order of R201. -/
def region (a : Word) : Region :=
  if a.toNat < 0x8000 then .rom
  else if a.toNat < 0xA000 then .array
  else if a.toNat < 0xC000 then .cartRam
  else if a.toNat < 0xE000 then .array
  else if a.toNat < 0xFE00 then .echo
  else if a.toNat < 0xFEA0 then .array
  else if a.toNat < 0xFF00 then .unmapped
  else if a.toNat = 0xFF0F then .ifByte
  else if a.toNat < 0xFF80 then .io
  else if a.toNat < 0xFFFF then .array
  else .ieByte

/-- The entry of the I/O bank at an address 0xFF00 to 0xFF7F. -/
def ioIndex (a : Word) : Fin 128 := ⟨a.toNat % 128, Nat.mod_lt _ (by decide)⟩

/-- `read(addr)` (R201); none is a byte not written since reset (R206). -/
def State.read (s : State) (a : Word) : Option Byte :=
  match region a with
  | .rom => some (s.readROM a)
  | .cartRam => s.readRAM a
  | .array => s.mem.read a.toNat
  | .echo => s.mem.read (a.toNat - 0x2000)
  | .unmapped => some 0xFF
  | .io => some (s.io.get (ioIndex a))
  | .ifByte => some s.ifReg
  | .ieByte => some s.ieReg

/-- `write(addr, v)` (R202). -/
def State.write (s : State) (a : Word) (v : Byte) : State :=
  match region a with
  | .rom => s.writeROM a v
  | .cartRam => s.writeRAM a v
  | .array => { s with mem := s.mem.write a.toNat v }
  | .echo => { s with mem := s.mem.write (a.toNat - 0x2000) v }
  | .unmapped => s
  | .io => { s with io := s.io.set (ioIndex a) v }
  | .ifByte => { s with ifReg := v }
  | .ieByte => { s with ieReg := v }

/-! ### The two faults (`60_exceptions.md` R840, R841) -/

/-- Enter the Faulted run state with a fault record. -/
def State.enterFault (s : State) (r : Fault) : State := { s with run := .faulted r }

/-- The fault `UninitializedRead`: everything done before the read stays (R841). -/
def State.uninitialized (s : State) (a : Word) : State :=
  s.enterFault (.uninitializedRead a s.start)

/-- The exception `IllegalOpcode`: PC is restored to the opcode byte (R840, R757; log entry 19). -/
def State.illegal (s : State) (op : Byte) : State :=
  { s with pc := s.start }.enterFault (.illegalOpcode s.start op)

/-! ### Accesses of an instruction (`00_scope.md` R14, R15) -/

/-- `MemRead(a, 1)`, then the rest of the instruction on the byte; an unwritten byte ends it (R206). -/
def State.memRead (s : State) (a : Word) (k : Byte → Result) : Result :=
  match s.read a with
  | some v => k v
  | none => .next (s.uninitialized a)

/-- `Push16(v)` (R15): the high byte at SP - 1 first, then the low byte at SP - 2. -/
def State.push16 (s : State) (v : Word) : State :=
  let s := { s with sp := s.sp - 1 }
  let s := s.write s.sp (highByte v)
  let s := { s with sp := s.sp - 1 }
  s.write s.sp (lowByte v)

/-- `Pop16()` (R15), then the rest of the instruction on the word and the state with SP moved: the low
byte is read first, and SP moves after each read. -/
def State.pop16 (s : State) (k : Word → State → Result) : Result :=
  s.memRead s.sp fun lo =>
    let s1 := { s with sp := s.sp + 1 }
    s1.memRead s1.sp fun hi => k (wordOf hi lo) { s1 with sp := s1.sp + 1 }

/-! ### Interrupts (`60_exceptions.md` R800 to R815) -/

/-- `IE & IF & 0x1F`: the enabled pending sources (R810). -/
def State.pending (s : State) : Byte := s.ieReg &&& s.ifReg &&& 0x1F

/-- The lowest-numbered source of a mask of sources (R811). -/
def lowestSource (p : Byte) : Nat :=
  if p.getLsbD 0 then 0
  else if p.getLsbD 1 then 1
  else if p.getLsbD 2 then 2
  else if p.getLsbD 3 then 3
  else 4

/-- The vector of source `k` (R800). -/
def vector (k : Nat) : Word := 0x0040 + BitVec.ofNat 16 (8 * k)

/-- Dispatch of the lowest enabled pending source (R812): the source is chosen before any write. -/
def State.dispatch (s : State) : State :=
  let k := lowestSource s.pending
  let s := { s with ifReg := s.ifReg &&& ~~~(1#8 <<< k), ime := false, eiDelay := 0 }
  { s.push16 s.pc with pc := vector k }

/-- RETI: return from an interrupt; IME is set at once (R710, R815). -/
def returnFromInterrupt (s : State) : Result :=
  s.pop16 fun v s => .next { s with pc := v, ime := true, eiDelay := 0 }

end Sys2Proof.Machine
end

