-- ==== Sys2Proof/Machine/Load8.lean ====
section
/-! DEFINITION. The 8-bit loads (`40_load8.md` R401 to R419). No load writes F. -/
namespace Sys2Proof.Machine

/-! ### Shared operations -/

/-- `x[dst] <- x[r]` (R401). -/
def loadReg (dst r : Reg8) (s : State) : Result := .next (s.setReg dst (s.reg r))

/-- `x[dst] <- n` (R402). -/
def loadImm (dst : Reg8) (n : Byte) (s : State) : Result := .next (s.setReg dst n)

/-- `x[dst] <- MemRead(x[HL], 1)` (R403). -/
def loadFromHL (dst : Reg8) (s : State) : Result := s.memRead s.hl fun v => .next (s.setReg dst v)

/-- `MemWrite(x[HL], 1, v)` (R404, R405). -/
def storeToHL (v : Byte) (s : State) : Result := .next (s.write s.hl v)

/-- `x[A] <- MemRead(a, 1)` (R406, R407, R410, R412, R414). -/
def loadA (a : Word) (s : State) : Result := s.memRead a fun v => .next { s with a := v }

/-- `MemWrite(a, 1, x[A])` (R408, R409, R411, R413, R415). -/
def storeA (a : Word) (s : State) : Result := .next (s.write a s.a)

/-- `MemWrite(x[HL], 1, x[A])`, then HL moves by `step` (R416, R418). -/
def storeAStep (step : Word) (s : State) : Result :=
  .next ((s.write s.hl s.a).setHL (s.hl + step))

/-- `x[A] <- MemRead(x[HL], 1)`, then HL moves by `step` (R417, R419). -/
def loadAStep (step : Word) (s : State) : Result :=
  s.memRead s.hl fun v => .next ({ s with a := v }.setHL (s.hl + step))

/-! ### The meanings -/

/-- `LD (BC),A` (R408). -/
def execLd_atBC_A (s : State) : Result := storeA s.bc s

/-- `LD B,n` (R402). -/
def execLd_B_n (n : Byte) (s : State) : Result := loadImm .b n s

/-- `LD A,(BC)` (R406). -/
def execLd_A_atBC (s : State) : Result := loadA s.bc s

/-- `LD C,n` (R402). -/
def execLd_C_n (n : Byte) (s : State) : Result := loadImm .c n s

/-- `LD (DE),A` (R409). -/
def execLd_atDE_A (s : State) : Result := storeA s.de s

/-- `LD D,n` (R402). -/
def execLd_D_n (n : Byte) (s : State) : Result := loadImm .d n s

/-- `LD A,(DE)` (R407). -/
def execLd_A_atDE (s : State) : Result := loadA s.de s

/-- `LD E,n` (R402). -/
def execLd_E_n (n : Byte) (s : State) : Result := loadImm .e n s

/-- `LD (HL+),A` (R416). -/
def execLd_atHLinc_A (s : State) : Result := storeAStep 1 s

/-- `LD H,n` (R402). -/
def execLd_H_n (n : Byte) (s : State) : Result := loadImm .h n s

/-- `LD A,(HL+)` (R417). -/
def execLd_A_atHLinc (s : State) : Result := loadAStep 1 s

/-- `LD L,n` (R402). -/
def execLd_L_n (n : Byte) (s : State) : Result := loadImm .l n s

/-- `LD (HL-),A` (R418). -/
def execLd_atHLdec_A (s : State) : Result := storeAStep (-1) s

/-- `LD (HL),n` (R405). -/
def execLd_atHL_n (n : Byte) (s : State) : Result := storeToHL n s

/-- `LD A,(HL-)` (R419). -/
def execLd_A_atHLdec (s : State) : Result := loadAStep (-1) s

/-- `LD A,n` (R402). -/
def execLd_A_n (n : Byte) (s : State) : Result := loadImm .a n s

/-- `LD B,B` (R401). -/
def execLd_B_B (s : State) : Result := loadReg .b .b s

/-- `LD B,C` (R401). -/
def execLd_B_C (s : State) : Result := loadReg .b .c s

/-- `LD B,D` (R401). -/
def execLd_B_D (s : State) : Result := loadReg .b .d s

/-- `LD B,E` (R401). -/
def execLd_B_E (s : State) : Result := loadReg .b .e s

/-- `LD B,H` (R401). -/
def execLd_B_H (s : State) : Result := loadReg .b .h s

/-- `LD B,L` (R401). -/
def execLd_B_L (s : State) : Result := loadReg .b .l s

/-- `LD B,(HL)` (R403). -/
def execLd_B_atHL (s : State) : Result := loadFromHL .b s

/-- `LD B,A` (R401). -/
def execLd_B_A (s : State) : Result := loadReg .b .a s

/-- `LD C,B` (R401). -/
def execLd_C_B (s : State) : Result := loadReg .c .b s

/-- `LD C,C` (R401). -/
def execLd_C_C (s : State) : Result := loadReg .c .c s

/-- `LD C,D` (R401). -/
def execLd_C_D (s : State) : Result := loadReg .c .d s

/-- `LD C,E` (R401). -/
def execLd_C_E (s : State) : Result := loadReg .c .e s

/-- `LD C,H` (R401). -/
def execLd_C_H (s : State) : Result := loadReg .c .h s

/-- `LD C,L` (R401). -/
def execLd_C_L (s : State) : Result := loadReg .c .l s

/-- `LD C,(HL)` (R403). -/
def execLd_C_atHL (s : State) : Result := loadFromHL .c s

/-- `LD C,A` (R401). -/
def execLd_C_A (s : State) : Result := loadReg .c .a s

/-- `LD D,B` (R401). -/
def execLd_D_B (s : State) : Result := loadReg .d .b s

/-- `LD D,C` (R401). -/
def execLd_D_C (s : State) : Result := loadReg .d .c s

/-- `LD D,D` (R401). -/
def execLd_D_D (s : State) : Result := loadReg .d .d s

/-- `LD D,E` (R401). -/
def execLd_D_E (s : State) : Result := loadReg .d .e s

/-- `LD D,H` (R401). -/
def execLd_D_H (s : State) : Result := loadReg .d .h s

/-- `LD D,L` (R401). -/
def execLd_D_L (s : State) : Result := loadReg .d .l s

/-- `LD D,(HL)` (R403). -/
def execLd_D_atHL (s : State) : Result := loadFromHL .d s

/-- `LD D,A` (R401). -/
def execLd_D_A (s : State) : Result := loadReg .d .a s

/-- `LD E,B` (R401). -/
def execLd_E_B (s : State) : Result := loadReg .e .b s

/-- `LD E,C` (R401). -/
def execLd_E_C (s : State) : Result := loadReg .e .c s

/-- `LD E,D` (R401). -/
def execLd_E_D (s : State) : Result := loadReg .e .d s

/-- `LD E,E` (R401). -/
def execLd_E_E (s : State) : Result := loadReg .e .e s

/-- `LD E,H` (R401). -/
def execLd_E_H (s : State) : Result := loadReg .e .h s

/-- `LD E,L` (R401). -/
def execLd_E_L (s : State) : Result := loadReg .e .l s

/-- `LD E,(HL)` (R403). -/
def execLd_E_atHL (s : State) : Result := loadFromHL .e s

/-- `LD E,A` (R401). -/
def execLd_E_A (s : State) : Result := loadReg .e .a s

/-- `LD H,B` (R401). -/
def execLd_H_B (s : State) : Result := loadReg .h .b s

/-- `LD H,C` (R401). -/
def execLd_H_C (s : State) : Result := loadReg .h .c s

/-- `LD H,D` (R401). -/
def execLd_H_D (s : State) : Result := loadReg .h .d s

/-- `LD H,E` (R401). -/
def execLd_H_E (s : State) : Result := loadReg .h .e s

/-- `LD H,H` (R401). -/
def execLd_H_H (s : State) : Result := loadReg .h .h s

/-- `LD H,L` (R401). -/
def execLd_H_L (s : State) : Result := loadReg .h .l s

/-- `LD H,(HL)` (R403). -/
def execLd_H_atHL (s : State) : Result := loadFromHL .h s

/-- `LD H,A` (R401). -/
def execLd_H_A (s : State) : Result := loadReg .h .a s

/-- `LD L,B` (R401). -/
def execLd_L_B (s : State) : Result := loadReg .l .b s

/-- `LD L,C` (R401). -/
def execLd_L_C (s : State) : Result := loadReg .l .c s

/-- `LD L,D` (R401). -/
def execLd_L_D (s : State) : Result := loadReg .l .d s

/-- `LD L,E` (R401). -/
def execLd_L_E (s : State) : Result := loadReg .l .e s

/-- `LD L,H` (R401). -/
def execLd_L_H (s : State) : Result := loadReg .l .h s

/-- `LD L,L` (R401). -/
def execLd_L_L (s : State) : Result := loadReg .l .l s

/-- `LD L,(HL)` (R403). -/
def execLd_L_atHL (s : State) : Result := loadFromHL .l s

/-- `LD L,A` (R401). -/
def execLd_L_A (s : State) : Result := loadReg .l .a s

/-- `LD (HL),B` (R404). -/
def execLd_atHL_B (s : State) : Result := storeToHL (s.reg .b) s

/-- `LD (HL),C` (R404). -/
def execLd_atHL_C (s : State) : Result := storeToHL (s.reg .c) s

/-- `LD (HL),D` (R404). -/
def execLd_atHL_D (s : State) : Result := storeToHL (s.reg .d) s

/-- `LD (HL),E` (R404). -/
def execLd_atHL_E (s : State) : Result := storeToHL (s.reg .e) s

/-- `LD (HL),H` (R404). -/
def execLd_atHL_H (s : State) : Result := storeToHL (s.reg .h) s

/-- `LD (HL),L` (R404). -/
def execLd_atHL_L (s : State) : Result := storeToHL (s.reg .l) s

/-- `LD (HL),A` (R404). -/
def execLd_atHL_A (s : State) : Result := storeToHL (s.reg .a) s

/-- `LD A,B` (R401). -/
def execLd_A_B (s : State) : Result := loadReg .a .b s

/-- `LD A,C` (R401). -/
def execLd_A_C (s : State) : Result := loadReg .a .c s

/-- `LD A,D` (R401). -/
def execLd_A_D (s : State) : Result := loadReg .a .d s

/-- `LD A,E` (R401). -/
def execLd_A_E (s : State) : Result := loadReg .a .e s

/-- `LD A,H` (R401). -/
def execLd_A_H (s : State) : Result := loadReg .a .h s

/-- `LD A,L` (R401). -/
def execLd_A_L (s : State) : Result := loadReg .a .l s

/-- `LD A,(HL)` (R403). -/
def execLd_A_atHL (s : State) : Result := loadFromHL .a s

/-- `LD A,A` (R401). -/
def execLd_A_A (s : State) : Result := loadReg .a .a s

/-- `LDH (n),A` (R413). -/
def execLdh_atN_A (n : Byte) (s : State) : Result := storeA (highPage n) s

/-- `LD (C),A` (R415). -/
def execLd_atC_A (s : State) : Result := storeA (highPage s.c) s

/-- `LD (nn),A` (R411). -/
def execLd_atNn_A (nn : Word) (s : State) : Result := storeA nn s

/-- `LDH A,(n)` (R412). -/
def execLdh_A_atN (n : Byte) (s : State) : Result := loadA (highPage n) s

/-- `LD A,(C)` (R414). -/
def execLd_A_atC (s : State) : Result := loadA (highPage s.c) s

/-- `LD A,(nn)` (R410). -/
def execLd_A_atNn (nn : Word) (s : State) : Result := loadA nn s

end Sys2Proof.Machine
end

