-- ==== Sys2Proof/Machine/Load16.lean ====
section
/-! DEFINITION. The 16-bit loads and stack transfers (`41_load16_stack.md` R450 to R455). Only POP AF
writes F. -/
namespace Sys2Proof.Machine

/-! ### Shared operations -/

/-- `x[rr] <- nn` (R450). -/
def loadPair (p : RegPair) (nn : Word) (s : State) : Result := .next (s.setPair p nn)

/-- SP to memory, the low byte at `nn` first, then the high byte at `nn + 1` (R451). -/
def storeSP (nn : Word) (s : State) : Result :=
  .next ((s.write nn (lowByte s.sp)).write (nn + 1) (highByte s.sp))

/-- `SP <- x[HL]` (R452). -/
def loadSPFromHL (s : State) : Result := .next { s with sp := s.hl }

/-- `Push16(x[rr])` (R453). -/
def pushPair (p : StackPair) (s : State) : Result := .next (s.push16 (s.stackPair p))

/-- `x[rr] <- Pop16()` (R454, R455). -/
def popPair (p : StackPair) (s : State) : Result :=
  s.pop16 fun v s => .next (s.setStackPair p v)

/-! ### The meanings -/

/-- `LD BC,nn` (R450). -/
def execLd_BC_nn (nn : Word) (s : State) : Result := loadPair .bc nn s

/-- `LD (nn),SP` (R451). -/
def execLd_atNn_SP (nn : Word) (s : State) : Result := storeSP nn s

/-- `LD DE,nn` (R450). -/
def execLd_DE_nn (nn : Word) (s : State) : Result := loadPair .de nn s

/-- `LD HL,nn` (R450). -/
def execLd_HL_nn (nn : Word) (s : State) : Result := loadPair .hl nn s

/-- `LD SP,nn` (R450). -/
def execLd_SP_nn (nn : Word) (s : State) : Result := loadPair .sp nn s

/-- `POP BC` (R454). -/
def execPop_BC (s : State) : Result := popPair .bc s

/-- `PUSH BC` (R453). -/
def execPush_BC (s : State) : Result := pushPair .bc s

/-- `POP DE` (R454). -/
def execPop_DE (s : State) : Result := popPair .de s

/-- `PUSH DE` (R453). -/
def execPush_DE (s : State) : Result := pushPair .de s

/-- `POP HL` (R454). -/
def execPop_HL (s : State) : Result := popPair .hl s

/-- `PUSH HL` (R453). -/
def execPush_HL (s : State) : Result := pushPair .hl s

/-- `POP AF` (R455). -/
def execPop_AF (s : State) : Result := popPair .af s

/-- `PUSH AF` (R453). -/
def execPush_AF (s : State) : Result := pushPair .af s

/-- `LD SP,HL` (R452). -/
def execLd_SP_HL (s : State) : Result := loadSPFromHL s

end Sys2Proof.Machine
end

