-- ==== Sys2Proof/Machine/Alu8.lean ====
section
/-! DEFINITION. 8-bit arithmetic and logic (`42_alu8.md` R510 to R541), over the flag engine of
Flags.lean. -/
namespace Sys2Proof.Machine

/-! ### Shared operations -/

/-- An ALU operation on A and a byte (R505): A and all four flags are written, A by CP with itself. -/
def aluOnByte (op : AluOp) (v : Byte) (s : State) : Result :=
  .next { s with a := (alu op s.a v s.f).1, f := (alu op s.a v s.f).2 }

/-- An ALU operation on A and the byte at HL (R505). -/
def aluOnHL (op : AluOp) (s : State) : Result := s.memRead s.hl fun v => aluOnByte op v s

/-- INC r (R534). -/
def incrementReg (r : Reg8) (s : State) : Result :=
  .next ({ s with f := (inc8 (s.reg r) s.f).2 }.setReg r (inc8 (s.reg r) s.f).1)

/-- DEC r (R536). -/
def decrementReg (r : Reg8) (s : State) : Result :=
  .next ({ s with f := (dec8 (s.reg r) s.f).2 }.setReg r (dec8 (s.reg r) s.f).1)

/-- INC (HL): read, write back, flags from the byte read (R535). -/
def incrementHL (s : State) : Result :=
  s.memRead s.hl fun v => .next { s.write s.hl (inc8 v s.f).1 with f := (inc8 v s.f).2 }

/-- DEC (HL) (R537). -/
def decrementHL (s : State) : Result :=
  s.memRead s.hl fun v => .next { s.write s.hl (dec8 v s.f).1 with f := (dec8 v s.f).2 }

/-- DAA (R538). -/
def decimalAdjust (s : State) : Result :=
  .next { s with a := (daa s.a s.f).1, f := (daa s.a s.f).2 }

/-- CPL (R539). -/
def complementA (s : State) : Result :=
  .next { s with a := ~~~s.a, f := { s.f with n := true, h := true } }

/-- SCF (R540). -/
def setCarry (s : State) : Result :=
  .next { s with f := { s.f with n := false, h := false, c := true } }

/-- CCF (R541). -/
def complementCarry (s : State) : Result :=
  .next { s with f := { s.f with n := false, h := false, c := !s.f.c } }

/-! ### The meanings -/

/-- `INC B` (R534). -/
def execInc_B (s : State) : Result := incrementReg .b s

/-- `DEC B` (R536). -/
def execDec_B (s : State) : Result := decrementReg .b s

/-- `INC C` (R534). -/
def execInc_C (s : State) : Result := incrementReg .c s

/-- `DEC C` (R536). -/
def execDec_C (s : State) : Result := decrementReg .c s

/-- `INC D` (R534). -/
def execInc_D (s : State) : Result := incrementReg .d s

/-- `DEC D` (R536). -/
def execDec_D (s : State) : Result := decrementReg .d s

/-- `INC E` (R534). -/
def execInc_E (s : State) : Result := incrementReg .e s

/-- `DEC E` (R536). -/
def execDec_E (s : State) : Result := decrementReg .e s

/-- `INC H` (R534). -/
def execInc_H (s : State) : Result := incrementReg .h s

/-- `DEC H` (R536). -/
def execDec_H (s : State) : Result := decrementReg .h s

/-- `DAA` (R538). -/
def execDaa (s : State) : Result := decimalAdjust s

/-- `INC L` (R534). -/
def execInc_L (s : State) : Result := incrementReg .l s

/-- `DEC L` (R536). -/
def execDec_L (s : State) : Result := decrementReg .l s

/-- `CPL` (R539). -/
def execCpl (s : State) : Result := complementA s

/-- `INC (HL)` (R535). -/
def execInc_atHL (s : State) : Result := incrementHL s

/-- `DEC (HL)` (R537). -/
def execDec_atHL (s : State) : Result := decrementHL s

/-- `SCF` (R540). -/
def execScf (s : State) : Result := setCarry s

/-- `INC A` (R534). -/
def execInc_A (s : State) : Result := incrementReg .a s

/-- `DEC A` (R536). -/
def execDec_A (s : State) : Result := decrementReg .a s

/-- `CCF` (R541). -/
def execCcf (s : State) : Result := complementCarry s

/-- `ADD A,B` (R510). -/
def execAdd_A_B (s : State) : Result := aluOnByte .add (s.reg .b) s

/-- `ADD A,C` (R510). -/
def execAdd_A_C (s : State) : Result := aluOnByte .add (s.reg .c) s

/-- `ADD A,D` (R510). -/
def execAdd_A_D (s : State) : Result := aluOnByte .add (s.reg .d) s

/-- `ADD A,E` (R510). -/
def execAdd_A_E (s : State) : Result := aluOnByte .add (s.reg .e) s

/-- `ADD A,H` (R510). -/
def execAdd_A_H (s : State) : Result := aluOnByte .add (s.reg .h) s

/-- `ADD A,L` (R510). -/
def execAdd_A_L (s : State) : Result := aluOnByte .add (s.reg .l) s

/-- `ADD A,(HL)` (R511). -/
def execAdd_A_atHL (s : State) : Result := aluOnHL .add s

/-- `ADD A,A` (R510). -/
def execAdd_A_A (s : State) : Result := aluOnByte .add (s.reg .a) s

/-- `ADC A,B` (R513). -/
def execAdc_A_B (s : State) : Result := aluOnByte .adc (s.reg .b) s

/-- `ADC A,C` (R513). -/
def execAdc_A_C (s : State) : Result := aluOnByte .adc (s.reg .c) s

/-- `ADC A,D` (R513). -/
def execAdc_A_D (s : State) : Result := aluOnByte .adc (s.reg .d) s

/-- `ADC A,E` (R513). -/
def execAdc_A_E (s : State) : Result := aluOnByte .adc (s.reg .e) s

/-- `ADC A,H` (R513). -/
def execAdc_A_H (s : State) : Result := aluOnByte .adc (s.reg .h) s

/-- `ADC A,L` (R513). -/
def execAdc_A_L (s : State) : Result := aluOnByte .adc (s.reg .l) s

/-- `ADC A,(HL)` (R514). -/
def execAdc_A_atHL (s : State) : Result := aluOnHL .adc s

/-- `ADC A,A` (R513). -/
def execAdc_A_A (s : State) : Result := aluOnByte .adc (s.reg .a) s

/-- `SUB B` (R516). -/
def execSub_B (s : State) : Result := aluOnByte .sub (s.reg .b) s

/-- `SUB C` (R516). -/
def execSub_C (s : State) : Result := aluOnByte .sub (s.reg .c) s

/-- `SUB D` (R516). -/
def execSub_D (s : State) : Result := aluOnByte .sub (s.reg .d) s

/-- `SUB E` (R516). -/
def execSub_E (s : State) : Result := aluOnByte .sub (s.reg .e) s

/-- `SUB H` (R516). -/
def execSub_H (s : State) : Result := aluOnByte .sub (s.reg .h) s

/-- `SUB L` (R516). -/
def execSub_L (s : State) : Result := aluOnByte .sub (s.reg .l) s

/-- `SUB (HL)` (R517). -/
def execSub_atHL (s : State) : Result := aluOnHL .sub s

/-- `SUB A` (R516). -/
def execSub_A (s : State) : Result := aluOnByte .sub (s.reg .a) s

/-- `SBC A,B` (R519). -/
def execSbc_A_B (s : State) : Result := aluOnByte .sbc (s.reg .b) s

/-- `SBC A,C` (R519). -/
def execSbc_A_C (s : State) : Result := aluOnByte .sbc (s.reg .c) s

/-- `SBC A,D` (R519). -/
def execSbc_A_D (s : State) : Result := aluOnByte .sbc (s.reg .d) s

/-- `SBC A,E` (R519). -/
def execSbc_A_E (s : State) : Result := aluOnByte .sbc (s.reg .e) s

/-- `SBC A,H` (R519). -/
def execSbc_A_H (s : State) : Result := aluOnByte .sbc (s.reg .h) s

/-- `SBC A,L` (R519). -/
def execSbc_A_L (s : State) : Result := aluOnByte .sbc (s.reg .l) s

/-- `SBC A,(HL)` (R520). -/
def execSbc_A_atHL (s : State) : Result := aluOnHL .sbc s

/-- `SBC A,A` (R519). -/
def execSbc_A_A (s : State) : Result := aluOnByte .sbc (s.reg .a) s

/-- `AND B` (R522). -/
def execAnd_B (s : State) : Result := aluOnByte .and (s.reg .b) s

/-- `AND C` (R522). -/
def execAnd_C (s : State) : Result := aluOnByte .and (s.reg .c) s

/-- `AND D` (R522). -/
def execAnd_D (s : State) : Result := aluOnByte .and (s.reg .d) s

/-- `AND E` (R522). -/
def execAnd_E (s : State) : Result := aluOnByte .and (s.reg .e) s

/-- `AND H` (R522). -/
def execAnd_H (s : State) : Result := aluOnByte .and (s.reg .h) s

/-- `AND L` (R522). -/
def execAnd_L (s : State) : Result := aluOnByte .and (s.reg .l) s

/-- `AND (HL)` (R523). -/
def execAnd_atHL (s : State) : Result := aluOnHL .and s

/-- `AND A` (R522). -/
def execAnd_A (s : State) : Result := aluOnByte .and (s.reg .a) s

/-- `XOR B` (R525). -/
def execXor_B (s : State) : Result := aluOnByte .xor (s.reg .b) s

/-- `XOR C` (R525). -/
def execXor_C (s : State) : Result := aluOnByte .xor (s.reg .c) s

/-- `XOR D` (R525). -/
def execXor_D (s : State) : Result := aluOnByte .xor (s.reg .d) s

/-- `XOR E` (R525). -/
def execXor_E (s : State) : Result := aluOnByte .xor (s.reg .e) s

/-- `XOR H` (R525). -/
def execXor_H (s : State) : Result := aluOnByte .xor (s.reg .h) s

/-- `XOR L` (R525). -/
def execXor_L (s : State) : Result := aluOnByte .xor (s.reg .l) s

/-- `XOR (HL)` (R526). -/
def execXor_atHL (s : State) : Result := aluOnHL .xor s

/-- `XOR A` (R525). -/
def execXor_A (s : State) : Result := aluOnByte .xor (s.reg .a) s

/-- `OR B` (R528). -/
def execOr_B (s : State) : Result := aluOnByte .or (s.reg .b) s

/-- `OR C` (R528). -/
def execOr_C (s : State) : Result := aluOnByte .or (s.reg .c) s

/-- `OR D` (R528). -/
def execOr_D (s : State) : Result := aluOnByte .or (s.reg .d) s

/-- `OR E` (R528). -/
def execOr_E (s : State) : Result := aluOnByte .or (s.reg .e) s

/-- `OR H` (R528). -/
def execOr_H (s : State) : Result := aluOnByte .or (s.reg .h) s

/-- `OR L` (R528). -/
def execOr_L (s : State) : Result := aluOnByte .or (s.reg .l) s

/-- `OR (HL)` (R529). -/
def execOr_atHL (s : State) : Result := aluOnHL .or s

/-- `OR A` (R528). -/
def execOr_A (s : State) : Result := aluOnByte .or (s.reg .a) s

/-- `CP B` (R531). -/
def execCp_B (s : State) : Result := aluOnByte .cp (s.reg .b) s

/-- `CP C` (R531). -/
def execCp_C (s : State) : Result := aluOnByte .cp (s.reg .c) s

/-- `CP D` (R531). -/
def execCp_D (s : State) : Result := aluOnByte .cp (s.reg .d) s

/-- `CP E` (R531). -/
def execCp_E (s : State) : Result := aluOnByte .cp (s.reg .e) s

/-- `CP H` (R531). -/
def execCp_H (s : State) : Result := aluOnByte .cp (s.reg .h) s

/-- `CP L` (R531). -/
def execCp_L (s : State) : Result := aluOnByte .cp (s.reg .l) s

/-- `CP (HL)` (R532). -/
def execCp_atHL (s : State) : Result := aluOnHL .cp s

/-- `CP A` (R531). -/
def execCp_A (s : State) : Result := aluOnByte .cp (s.reg .a) s

/-- `ADD A,n` (R512). -/
def execAdd_A_n (n : Byte) (s : State) : Result := aluOnByte .add n s

/-- `ADC A,n` (R515). -/
def execAdc_A_n (n : Byte) (s : State) : Result := aluOnByte .adc n s

/-- `SUB n` (R518). -/
def execSub_n (n : Byte) (s : State) : Result := aluOnByte .sub n s

/-- `SBC A,n` (R521). -/
def execSbc_A_n (n : Byte) (s : State) : Result := aluOnByte .sbc n s

/-- `AND n` (R524). -/
def execAnd_n (n : Byte) (s : State) : Result := aluOnByte .and n s

/-- `XOR n` (R527). -/
def execXor_n (n : Byte) (s : State) : Result := aluOnByte .xor n s

/-- `OR n` (R530). -/
def execOr_n (n : Byte) (s : State) : Result := aluOnByte .or n s

/-- `CP n` (R533). -/
def execCp_n (n : Byte) (s : State) : Result := aluOnByte .cp n s

end Sys2Proof.Machine
end

