-- ==== Sys2Proof/Machine/Alu16.lean ====
section
/-! DEFINITION. 16-bit arithmetic (`43_alu16.md` R552 to R556). -/
namespace Sys2Proof.Machine

/-! ### Shared operations -/

/-- `x[HL] <- add16(x[HL], x[rr])` (R552). -/
def addToHL (p : RegPair) (s : State) : Result :=
  .next ({ s with f := (add16 s.hl (s.pair p) s.f).2 }.setHL (add16 s.hl (s.pair p) s.f).1)

/-- `x[rr] <- x[rr] + 1`, no flags (R553). -/
def incrementPair (p : RegPair) (s : State) : Result := .next (s.setPair p (s.pair p + 1))

/-- `x[rr] <- x[rr] - 1`, no flags (R554). -/
def decrementPair (p : RegPair) (s : State) : Result := .next (s.setPair p (s.pair p - 1))

/-- `SP <- addSPe(SP, e)` (R555). -/
def addToSP (e : Byte) (s : State) : Result :=
  .next { s with sp := (addSPe s.sp e).1, f := (addSPe s.sp e).2 }

/-- `x[HL] <- addSPe(SP, e)` (R556). -/
def loadHLFromSP (e : Byte) (s : State) : Result :=
  .next ({ s with f := (addSPe s.sp e).2 }.setHL (addSPe s.sp e).1)

/-! ### The meanings -/

/-- `INC BC` (R553). -/
def execInc_BC (s : State) : Result := incrementPair .bc s

/-- `ADD HL,BC` (R552). -/
def execAdd_HL_BC (s : State) : Result := addToHL .bc s

/-- `DEC BC` (R554). -/
def execDec_BC (s : State) : Result := decrementPair .bc s

/-- `INC DE` (R553). -/
def execInc_DE (s : State) : Result := incrementPair .de s

/-- `ADD HL,DE` (R552). -/
def execAdd_HL_DE (s : State) : Result := addToHL .de s

/-- `DEC DE` (R554). -/
def execDec_DE (s : State) : Result := decrementPair .de s

/-- `INC HL` (R553). -/
def execInc_HL (s : State) : Result := incrementPair .hl s

/-- `ADD HL,HL` (R552). -/
def execAdd_HL_HL (s : State) : Result := addToHL .hl s

/-- `DEC HL` (R554). -/
def execDec_HL (s : State) : Result := decrementPair .hl s

/-- `INC SP` (R553). -/
def execInc_SP (s : State) : Result := incrementPair .sp s

/-- `ADD HL,SP` (R552). -/
def execAdd_HL_SP (s : State) : Result := addToHL .sp s

/-- `DEC SP` (R554). -/
def execDec_SP (s : State) : Result := decrementPair .sp s

/-- `ADD SP,e` (R555). -/
def execAdd_SP_e (e : Byte) (s : State) : Result := addToSP e s

/-- `LD HL,SP+e` (R556). -/
def execLd_HL_SPe (e : Byte) (s : State) : Result := loadHLFromSP e s

end Sys2Proof.Machine
end

