-- ==== Sys2Proof/Machine/RotateShift.lean ====
section
/-! DEFINITION. Rotates, shifts and SWAP (`44_rotate_shift.md` R601 to R620). -/
namespace Sys2Proof.Machine

/-! ### Shared operations -/

/-- The accumulator rotates: fZ is always cleared (R601 to R604). -/
def rotateA (op : ShiftOp) (s : State) : Result :=
  .next { s with
    a := (shift op s.a s.f.c).1
    f := shiftFlags false (shift op s.a s.f.c).2 }

/-- The register form of the extended page: fZ from the result (section 2 of the file). -/
def shiftOnReg (op : ShiftOp) (r : Reg8) (s : State) : Result :=
  let x := shift op (s.reg r) s.f.c
  .next ({ s with f := shiftFlags (x.1 == 0) x.2 }.setReg r x.1)

/-- The memory form of the extended page (section 2 of the file). -/
def shiftOnHL (op : ShiftOp) (s : State) : Result :=
  s.memRead s.hl fun v =>
    let x := shift op v s.f.c
    .next { s.write s.hl x.1 with f := shiftFlags (x.1 == 0) x.2 }

/-! ### The meanings -/

/-- `RLCA` (R601). -/
def execRlca (s : State) : Result := rotateA .rlc s

/-- `RRCA` (R602). -/
def execRrca (s : State) : Result := rotateA .rrc s

/-- `RLA` (R603). -/
def execRla (s : State) : Result := rotateA .rl s

/-- `RRA` (R604). -/
def execRra (s : State) : Result := rotateA .rr s

/-- `RLC B` (R605). -/
def execRlc_B (s : State) : Result := shiftOnReg .rlc .b s

/-- `RLC C` (R605). -/
def execRlc_C (s : State) : Result := shiftOnReg .rlc .c s

/-- `RLC D` (R605). -/
def execRlc_D (s : State) : Result := shiftOnReg .rlc .d s

/-- `RLC E` (R605). -/
def execRlc_E (s : State) : Result := shiftOnReg .rlc .e s

/-- `RLC H` (R605). -/
def execRlc_H (s : State) : Result := shiftOnReg .rlc .h s

/-- `RLC L` (R605). -/
def execRlc_L (s : State) : Result := shiftOnReg .rlc .l s

/-- `RLC (HL)` (R606). -/
def execRlc_atHL (s : State) : Result := shiftOnHL .rlc s

/-- `RLC A` (R605). -/
def execRlc_A (s : State) : Result := shiftOnReg .rlc .a s

/-- `RRC B` (R607). -/
def execRrc_B (s : State) : Result := shiftOnReg .rrc .b s

/-- `RRC C` (R607). -/
def execRrc_C (s : State) : Result := shiftOnReg .rrc .c s

/-- `RRC D` (R607). -/
def execRrc_D (s : State) : Result := shiftOnReg .rrc .d s

/-- `RRC E` (R607). -/
def execRrc_E (s : State) : Result := shiftOnReg .rrc .e s

/-- `RRC H` (R607). -/
def execRrc_H (s : State) : Result := shiftOnReg .rrc .h s

/-- `RRC L` (R607). -/
def execRrc_L (s : State) : Result := shiftOnReg .rrc .l s

/-- `RRC (HL)` (R608). -/
def execRrc_atHL (s : State) : Result := shiftOnHL .rrc s

/-- `RRC A` (R607). -/
def execRrc_A (s : State) : Result := shiftOnReg .rrc .a s

/-- `RL B` (R609). -/
def execRl_B (s : State) : Result := shiftOnReg .rl .b s

/-- `RL C` (R609). -/
def execRl_C (s : State) : Result := shiftOnReg .rl .c s

/-- `RL D` (R609). -/
def execRl_D (s : State) : Result := shiftOnReg .rl .d s

/-- `RL E` (R609). -/
def execRl_E (s : State) : Result := shiftOnReg .rl .e s

/-- `RL H` (R609). -/
def execRl_H (s : State) : Result := shiftOnReg .rl .h s

/-- `RL L` (R609). -/
def execRl_L (s : State) : Result := shiftOnReg .rl .l s

/-- `RL (HL)` (R610). -/
def execRl_atHL (s : State) : Result := shiftOnHL .rl s

/-- `RL A` (R609). -/
def execRl_A (s : State) : Result := shiftOnReg .rl .a s

/-- `RR B` (R611). -/
def execRr_B (s : State) : Result := shiftOnReg .rr .b s

/-- `RR C` (R611). -/
def execRr_C (s : State) : Result := shiftOnReg .rr .c s

/-- `RR D` (R611). -/
def execRr_D (s : State) : Result := shiftOnReg .rr .d s

/-- `RR E` (R611). -/
def execRr_E (s : State) : Result := shiftOnReg .rr .e s

/-- `RR H` (R611). -/
def execRr_H (s : State) : Result := shiftOnReg .rr .h s

/-- `RR L` (R611). -/
def execRr_L (s : State) : Result := shiftOnReg .rr .l s

/-- `RR (HL)` (R612). -/
def execRr_atHL (s : State) : Result := shiftOnHL .rr s

/-- `RR A` (R611). -/
def execRr_A (s : State) : Result := shiftOnReg .rr .a s

/-- `SLA B` (R613). -/
def execSla_B (s : State) : Result := shiftOnReg .sla .b s

/-- `SLA C` (R613). -/
def execSla_C (s : State) : Result := shiftOnReg .sla .c s

/-- `SLA D` (R613). -/
def execSla_D (s : State) : Result := shiftOnReg .sla .d s

/-- `SLA E` (R613). -/
def execSla_E (s : State) : Result := shiftOnReg .sla .e s

/-- `SLA H` (R613). -/
def execSla_H (s : State) : Result := shiftOnReg .sla .h s

/-- `SLA L` (R613). -/
def execSla_L (s : State) : Result := shiftOnReg .sla .l s

/-- `SLA (HL)` (R614). -/
def execSla_atHL (s : State) : Result := shiftOnHL .sla s

/-- `SLA A` (R613). -/
def execSla_A (s : State) : Result := shiftOnReg .sla .a s

/-- `SRA B` (R615). -/
def execSra_B (s : State) : Result := shiftOnReg .sra .b s

/-- `SRA C` (R615). -/
def execSra_C (s : State) : Result := shiftOnReg .sra .c s

/-- `SRA D` (R615). -/
def execSra_D (s : State) : Result := shiftOnReg .sra .d s

/-- `SRA E` (R615). -/
def execSra_E (s : State) : Result := shiftOnReg .sra .e s

/-- `SRA H` (R615). -/
def execSra_H (s : State) : Result := shiftOnReg .sra .h s

/-- `SRA L` (R615). -/
def execSra_L (s : State) : Result := shiftOnReg .sra .l s

/-- `SRA (HL)` (R616). -/
def execSra_atHL (s : State) : Result := shiftOnHL .sra s

/-- `SRA A` (R615). -/
def execSra_A (s : State) : Result := shiftOnReg .sra .a s

/-- `SWAP B` (R617). -/
def execSwap_B (s : State) : Result := shiftOnReg .swap .b s

/-- `SWAP C` (R617). -/
def execSwap_C (s : State) : Result := shiftOnReg .swap .c s

/-- `SWAP D` (R617). -/
def execSwap_D (s : State) : Result := shiftOnReg .swap .d s

/-- `SWAP E` (R617). -/
def execSwap_E (s : State) : Result := shiftOnReg .swap .e s

/-- `SWAP H` (R617). -/
def execSwap_H (s : State) : Result := shiftOnReg .swap .h s

/-- `SWAP L` (R617). -/
def execSwap_L (s : State) : Result := shiftOnReg .swap .l s

/-- `SWAP (HL)` (R618). -/
def execSwap_atHL (s : State) : Result := shiftOnHL .swap s

/-- `SWAP A` (R617). -/
def execSwap_A (s : State) : Result := shiftOnReg .swap .a s

/-- `SRL B` (R619). -/
def execSrl_B (s : State) : Result := shiftOnReg .srl .b s

/-- `SRL C` (R619). -/
def execSrl_C (s : State) : Result := shiftOnReg .srl .c s

/-- `SRL D` (R619). -/
def execSrl_D (s : State) : Result := shiftOnReg .srl .d s

/-- `SRL E` (R619). -/
def execSrl_E (s : State) : Result := shiftOnReg .srl .e s

/-- `SRL H` (R619). -/
def execSrl_H (s : State) : Result := shiftOnReg .srl .h s

/-- `SRL L` (R619). -/
def execSrl_L (s : State) : Result := shiftOnReg .srl .l s

/-- `SRL (HL)` (R620). -/
def execSrl_atHL (s : State) : Result := shiftOnHL .srl s

/-- `SRL A` (R619). -/
def execSrl_A (s : State) : Result := shiftOnReg .srl .a s

end Sys2Proof.Machine
end

