-- ==== Sys2Proof/Machine/Bit.lean ====
section
/-! DEFINITION. Single-bit test, reset and set (`45_bit.md` R650 to R655). -/
namespace Sys2Proof.Machine

/-! ### Shared operations -/

/-- BIT b,r (R650). -/
def testBitOnReg (b : BitIx) (r : Reg8) (s : State) : Result :=
  .next { s with f := bitFlags (s.reg r) b s.f }

/-- BIT b,(HL): memory is not written (R651). -/
def testBitOnHL (b : BitIx) (s : State) : Result :=
  s.memRead s.hl fun v => .next { s with f := bitFlags v b s.f }

/-- RES b,r (R652). -/
def resetBitOnReg (b : BitIx) (r : Reg8) (s : State) : Result :=
  .next (s.setReg r (resetBit (s.reg r) b))

/-- RES b,(HL): the write happens even if the bit was 0 (R653). -/
def resetBitOnHL (b : BitIx) (s : State) : Result :=
  s.memRead s.hl fun v => .next (s.write s.hl (resetBit v b))

/-- SET b,r (R654). -/
def setBitOnReg (b : BitIx) (r : Reg8) (s : State) : Result :=
  .next (s.setReg r (setBit (s.reg r) b))

/-- SET b,(HL) (R655). -/
def setBitOnHL (b : BitIx) (s : State) : Result :=
  s.memRead s.hl fun v => .next (s.write s.hl (setBit v b))

/-! ### The meanings -/

/-- `BIT 0,B` (R650). -/
def execBit_0_B (s : State) : Result := testBitOnReg .b0 .b s

/-- `BIT 0,C` (R650). -/
def execBit_0_C (s : State) : Result := testBitOnReg .b0 .c s

/-- `BIT 0,D` (R650). -/
def execBit_0_D (s : State) : Result := testBitOnReg .b0 .d s

/-- `BIT 0,E` (R650). -/
def execBit_0_E (s : State) : Result := testBitOnReg .b0 .e s

/-- `BIT 0,H` (R650). -/
def execBit_0_H (s : State) : Result := testBitOnReg .b0 .h s

/-- `BIT 0,L` (R650). -/
def execBit_0_L (s : State) : Result := testBitOnReg .b0 .l s

/-- `BIT 0,(HL)` (R651). -/
def execBit_0_atHL (s : State) : Result := testBitOnHL .b0 s

/-- `BIT 0,A` (R650). -/
def execBit_0_A (s : State) : Result := testBitOnReg .b0 .a s

/-- `BIT 1,B` (R650). -/
def execBit_1_B (s : State) : Result := testBitOnReg .b1 .b s

/-- `BIT 1,C` (R650). -/
def execBit_1_C (s : State) : Result := testBitOnReg .b1 .c s

/-- `BIT 1,D` (R650). -/
def execBit_1_D (s : State) : Result := testBitOnReg .b1 .d s

/-- `BIT 1,E` (R650). -/
def execBit_1_E (s : State) : Result := testBitOnReg .b1 .e s

/-- `BIT 1,H` (R650). -/
def execBit_1_H (s : State) : Result := testBitOnReg .b1 .h s

/-- `BIT 1,L` (R650). -/
def execBit_1_L (s : State) : Result := testBitOnReg .b1 .l s

/-- `BIT 1,(HL)` (R651). -/
def execBit_1_atHL (s : State) : Result := testBitOnHL .b1 s

/-- `BIT 1,A` (R650). -/
def execBit_1_A (s : State) : Result := testBitOnReg .b1 .a s

/-- `BIT 2,B` (R650). -/
def execBit_2_B (s : State) : Result := testBitOnReg .b2 .b s

/-- `BIT 2,C` (R650). -/
def execBit_2_C (s : State) : Result := testBitOnReg .b2 .c s

/-- `BIT 2,D` (R650). -/
def execBit_2_D (s : State) : Result := testBitOnReg .b2 .d s

/-- `BIT 2,E` (R650). -/
def execBit_2_E (s : State) : Result := testBitOnReg .b2 .e s

/-- `BIT 2,H` (R650). -/
def execBit_2_H (s : State) : Result := testBitOnReg .b2 .h s

/-- `BIT 2,L` (R650). -/
def execBit_2_L (s : State) : Result := testBitOnReg .b2 .l s

/-- `BIT 2,(HL)` (R651). -/
def execBit_2_atHL (s : State) : Result := testBitOnHL .b2 s

/-- `BIT 2,A` (R650). -/
def execBit_2_A (s : State) : Result := testBitOnReg .b2 .a s

/-- `BIT 3,B` (R650). -/
def execBit_3_B (s : State) : Result := testBitOnReg .b3 .b s

/-- `BIT 3,C` (R650). -/
def execBit_3_C (s : State) : Result := testBitOnReg .b3 .c s

/-- `BIT 3,D` (R650). -/
def execBit_3_D (s : State) : Result := testBitOnReg .b3 .d s

/-- `BIT 3,E` (R650). -/
def execBit_3_E (s : State) : Result := testBitOnReg .b3 .e s

/-- `BIT 3,H` (R650). -/
def execBit_3_H (s : State) : Result := testBitOnReg .b3 .h s

/-- `BIT 3,L` (R650). -/
def execBit_3_L (s : State) : Result := testBitOnReg .b3 .l s

/-- `BIT 3,(HL)` (R651). -/
def execBit_3_atHL (s : State) : Result := testBitOnHL .b3 s

/-- `BIT 3,A` (R650). -/
def execBit_3_A (s : State) : Result := testBitOnReg .b3 .a s

/-- `BIT 4,B` (R650). -/
def execBit_4_B (s : State) : Result := testBitOnReg .b4 .b s

/-- `BIT 4,C` (R650). -/
def execBit_4_C (s : State) : Result := testBitOnReg .b4 .c s

/-- `BIT 4,D` (R650). -/
def execBit_4_D (s : State) : Result := testBitOnReg .b4 .d s

/-- `BIT 4,E` (R650). -/
def execBit_4_E (s : State) : Result := testBitOnReg .b4 .e s

/-- `BIT 4,H` (R650). -/
def execBit_4_H (s : State) : Result := testBitOnReg .b4 .h s

/-- `BIT 4,L` (R650). -/
def execBit_4_L (s : State) : Result := testBitOnReg .b4 .l s

/-- `BIT 4,(HL)` (R651). -/
def execBit_4_atHL (s : State) : Result := testBitOnHL .b4 s

/-- `BIT 4,A` (R650). -/
def execBit_4_A (s : State) : Result := testBitOnReg .b4 .a s

/-- `BIT 5,B` (R650). -/
def execBit_5_B (s : State) : Result := testBitOnReg .b5 .b s

/-- `BIT 5,C` (R650). -/
def execBit_5_C (s : State) : Result := testBitOnReg .b5 .c s

/-- `BIT 5,D` (R650). -/
def execBit_5_D (s : State) : Result := testBitOnReg .b5 .d s

/-- `BIT 5,E` (R650). -/
def execBit_5_E (s : State) : Result := testBitOnReg .b5 .e s

/-- `BIT 5,H` (R650). -/
def execBit_5_H (s : State) : Result := testBitOnReg .b5 .h s

/-- `BIT 5,L` (R650). -/
def execBit_5_L (s : State) : Result := testBitOnReg .b5 .l s

/-- `BIT 5,(HL)` (R651). -/
def execBit_5_atHL (s : State) : Result := testBitOnHL .b5 s

/-- `BIT 5,A` (R650). -/
def execBit_5_A (s : State) : Result := testBitOnReg .b5 .a s

/-- `BIT 6,B` (R650). -/
def execBit_6_B (s : State) : Result := testBitOnReg .b6 .b s

/-- `BIT 6,C` (R650). -/
def execBit_6_C (s : State) : Result := testBitOnReg .b6 .c s

/-- `BIT 6,D` (R650). -/
def execBit_6_D (s : State) : Result := testBitOnReg .b6 .d s

/-- `BIT 6,E` (R650). -/
def execBit_6_E (s : State) : Result := testBitOnReg .b6 .e s

/-- `BIT 6,H` (R650). -/
def execBit_6_H (s : State) : Result := testBitOnReg .b6 .h s

/-- `BIT 6,L` (R650). -/
def execBit_6_L (s : State) : Result := testBitOnReg .b6 .l s

/-- `BIT 6,(HL)` (R651). -/
def execBit_6_atHL (s : State) : Result := testBitOnHL .b6 s

/-- `BIT 6,A` (R650). -/
def execBit_6_A (s : State) : Result := testBitOnReg .b6 .a s

/-- `BIT 7,B` (R650). -/
def execBit_7_B (s : State) : Result := testBitOnReg .b7 .b s

/-- `BIT 7,C` (R650). -/
def execBit_7_C (s : State) : Result := testBitOnReg .b7 .c s

/-- `BIT 7,D` (R650). -/
def execBit_7_D (s : State) : Result := testBitOnReg .b7 .d s

/-- `BIT 7,E` (R650). -/
def execBit_7_E (s : State) : Result := testBitOnReg .b7 .e s

/-- `BIT 7,H` (R650). -/
def execBit_7_H (s : State) : Result := testBitOnReg .b7 .h s

/-- `BIT 7,L` (R650). -/
def execBit_7_L (s : State) : Result := testBitOnReg .b7 .l s

/-- `BIT 7,(HL)` (R651). -/
def execBit_7_atHL (s : State) : Result := testBitOnHL .b7 s

/-- `BIT 7,A` (R650). -/
def execBit_7_A (s : State) : Result := testBitOnReg .b7 .a s

/-- `RES 0,B` (R652). -/
def execRes_0_B (s : State) : Result := resetBitOnReg .b0 .b s

/-- `RES 0,C` (R652). -/
def execRes_0_C (s : State) : Result := resetBitOnReg .b0 .c s

/-- `RES 0,D` (R652). -/
def execRes_0_D (s : State) : Result := resetBitOnReg .b0 .d s

/-- `RES 0,E` (R652). -/
def execRes_0_E (s : State) : Result := resetBitOnReg .b0 .e s

/-- `RES 0,H` (R652). -/
def execRes_0_H (s : State) : Result := resetBitOnReg .b0 .h s

/-- `RES 0,L` (R652). -/
def execRes_0_L (s : State) : Result := resetBitOnReg .b0 .l s

/-- `RES 0,(HL)` (R653). -/
def execRes_0_atHL (s : State) : Result := resetBitOnHL .b0 s

/-- `RES 0,A` (R652). -/
def execRes_0_A (s : State) : Result := resetBitOnReg .b0 .a s

/-- `RES 1,B` (R652). -/
def execRes_1_B (s : State) : Result := resetBitOnReg .b1 .b s

/-- `RES 1,C` (R652). -/
def execRes_1_C (s : State) : Result := resetBitOnReg .b1 .c s

/-- `RES 1,D` (R652). -/
def execRes_1_D (s : State) : Result := resetBitOnReg .b1 .d s

/-- `RES 1,E` (R652). -/
def execRes_1_E (s : State) : Result := resetBitOnReg .b1 .e s

/-- `RES 1,H` (R652). -/
def execRes_1_H (s : State) : Result := resetBitOnReg .b1 .h s

/-- `RES 1,L` (R652). -/
def execRes_1_L (s : State) : Result := resetBitOnReg .b1 .l s

/-- `RES 1,(HL)` (R653). -/
def execRes_1_atHL (s : State) : Result := resetBitOnHL .b1 s

/-- `RES 1,A` (R652). -/
def execRes_1_A (s : State) : Result := resetBitOnReg .b1 .a s

/-- `RES 2,B` (R652). -/
def execRes_2_B (s : State) : Result := resetBitOnReg .b2 .b s

/-- `RES 2,C` (R652). -/
def execRes_2_C (s : State) : Result := resetBitOnReg .b2 .c s

/-- `RES 2,D` (R652). -/
def execRes_2_D (s : State) : Result := resetBitOnReg .b2 .d s

/-- `RES 2,E` (R652). -/
def execRes_2_E (s : State) : Result := resetBitOnReg .b2 .e s

/-- `RES 2,H` (R652). -/
def execRes_2_H (s : State) : Result := resetBitOnReg .b2 .h s

/-- `RES 2,L` (R652). -/
def execRes_2_L (s : State) : Result := resetBitOnReg .b2 .l s

/-- `RES 2,(HL)` (R653). -/
def execRes_2_atHL (s : State) : Result := resetBitOnHL .b2 s

/-- `RES 2,A` (R652). -/
def execRes_2_A (s : State) : Result := resetBitOnReg .b2 .a s

/-- `RES 3,B` (R652). -/
def execRes_3_B (s : State) : Result := resetBitOnReg .b3 .b s

/-- `RES 3,C` (R652). -/
def execRes_3_C (s : State) : Result := resetBitOnReg .b3 .c s

/-- `RES 3,D` (R652). -/
def execRes_3_D (s : State) : Result := resetBitOnReg .b3 .d s

/-- `RES 3,E` (R652). -/
def execRes_3_E (s : State) : Result := resetBitOnReg .b3 .e s

/-- `RES 3,H` (R652). -/
def execRes_3_H (s : State) : Result := resetBitOnReg .b3 .h s

/-- `RES 3,L` (R652). -/
def execRes_3_L (s : State) : Result := resetBitOnReg .b3 .l s

/-- `RES 3,(HL)` (R653). -/
def execRes_3_atHL (s : State) : Result := resetBitOnHL .b3 s

/-- `RES 3,A` (R652). -/
def execRes_3_A (s : State) : Result := resetBitOnReg .b3 .a s

/-- `RES 4,B` (R652). -/
def execRes_4_B (s : State) : Result := resetBitOnReg .b4 .b s

/-- `RES 4,C` (R652). -/
def execRes_4_C (s : State) : Result := resetBitOnReg .b4 .c s

/-- `RES 4,D` (R652). -/
def execRes_4_D (s : State) : Result := resetBitOnReg .b4 .d s

/-- `RES 4,E` (R652). -/
def execRes_4_E (s : State) : Result := resetBitOnReg .b4 .e s

/-- `RES 4,H` (R652). -/
def execRes_4_H (s : State) : Result := resetBitOnReg .b4 .h s

/-- `RES 4,L` (R652). -/
def execRes_4_L (s : State) : Result := resetBitOnReg .b4 .l s

/-- `RES 4,(HL)` (R653). -/
def execRes_4_atHL (s : State) : Result := resetBitOnHL .b4 s

/-- `RES 4,A` (R652). -/
def execRes_4_A (s : State) : Result := resetBitOnReg .b4 .a s

/-- `RES 5,B` (R652). -/
def execRes_5_B (s : State) : Result := resetBitOnReg .b5 .b s

/-- `RES 5,C` (R652). -/
def execRes_5_C (s : State) : Result := resetBitOnReg .b5 .c s

/-- `RES 5,D` (R652). -/
def execRes_5_D (s : State) : Result := resetBitOnReg .b5 .d s

/-- `RES 5,E` (R652). -/
def execRes_5_E (s : State) : Result := resetBitOnReg .b5 .e s

/-- `RES 5,H` (R652). -/
def execRes_5_H (s : State) : Result := resetBitOnReg .b5 .h s

/-- `RES 5,L` (R652). -/
def execRes_5_L (s : State) : Result := resetBitOnReg .b5 .l s

/-- `RES 5,(HL)` (R653). -/
def execRes_5_atHL (s : State) : Result := resetBitOnHL .b5 s

/-- `RES 5,A` (R652). -/
def execRes_5_A (s : State) : Result := resetBitOnReg .b5 .a s

/-- `RES 6,B` (R652). -/
def execRes_6_B (s : State) : Result := resetBitOnReg .b6 .b s

/-- `RES 6,C` (R652). -/
def execRes_6_C (s : State) : Result := resetBitOnReg .b6 .c s

/-- `RES 6,D` (R652). -/
def execRes_6_D (s : State) : Result := resetBitOnReg .b6 .d s

/-- `RES 6,E` (R652). -/
def execRes_6_E (s : State) : Result := resetBitOnReg .b6 .e s

/-- `RES 6,H` (R652). -/
def execRes_6_H (s : State) : Result := resetBitOnReg .b6 .h s

/-- `RES 6,L` (R652). -/
def execRes_6_L (s : State) : Result := resetBitOnReg .b6 .l s

/-- `RES 6,(HL)` (R653). -/
def execRes_6_atHL (s : State) : Result := resetBitOnHL .b6 s

/-- `RES 6,A` (R652). -/
def execRes_6_A (s : State) : Result := resetBitOnReg .b6 .a s

/-- `RES 7,B` (R652). -/
def execRes_7_B (s : State) : Result := resetBitOnReg .b7 .b s

/-- `RES 7,C` (R652). -/
def execRes_7_C (s : State) : Result := resetBitOnReg .b7 .c s

/-- `RES 7,D` (R652). -/
def execRes_7_D (s : State) : Result := resetBitOnReg .b7 .d s

/-- `RES 7,E` (R652). -/
def execRes_7_E (s : State) : Result := resetBitOnReg .b7 .e s

/-- `RES 7,H` (R652). -/
def execRes_7_H (s : State) : Result := resetBitOnReg .b7 .h s

/-- `RES 7,L` (R652). -/
def execRes_7_L (s : State) : Result := resetBitOnReg .b7 .l s

/-- `RES 7,(HL)` (R653). -/
def execRes_7_atHL (s : State) : Result := resetBitOnHL .b7 s

/-- `RES 7,A` (R652). -/
def execRes_7_A (s : State) : Result := resetBitOnReg .b7 .a s

/-- `SET 0,B` (R654). -/
def execSet_0_B (s : State) : Result := setBitOnReg .b0 .b s

/-- `SET 0,C` (R654). -/
def execSet_0_C (s : State) : Result := setBitOnReg .b0 .c s

/-- `SET 0,D` (R654). -/
def execSet_0_D (s : State) : Result := setBitOnReg .b0 .d s

/-- `SET 0,E` (R654). -/
def execSet_0_E (s : State) : Result := setBitOnReg .b0 .e s

/-- `SET 0,H` (R654). -/
def execSet_0_H (s : State) : Result := setBitOnReg .b0 .h s

/-- `SET 0,L` (R654). -/
def execSet_0_L (s : State) : Result := setBitOnReg .b0 .l s

/-- `SET 0,(HL)` (R655). -/
def execSet_0_atHL (s : State) : Result := setBitOnHL .b0 s

/-- `SET 0,A` (R654). -/
def execSet_0_A (s : State) : Result := setBitOnReg .b0 .a s

/-- `SET 1,B` (R654). -/
def execSet_1_B (s : State) : Result := setBitOnReg .b1 .b s

/-- `SET 1,C` (R654). -/
def execSet_1_C (s : State) : Result := setBitOnReg .b1 .c s

/-- `SET 1,D` (R654). -/
def execSet_1_D (s : State) : Result := setBitOnReg .b1 .d s

/-- `SET 1,E` (R654). -/
def execSet_1_E (s : State) : Result := setBitOnReg .b1 .e s

/-- `SET 1,H` (R654). -/
def execSet_1_H (s : State) : Result := setBitOnReg .b1 .h s

/-- `SET 1,L` (R654). -/
def execSet_1_L (s : State) : Result := setBitOnReg .b1 .l s

/-- `SET 1,(HL)` (R655). -/
def execSet_1_atHL (s : State) : Result := setBitOnHL .b1 s

/-- `SET 1,A` (R654). -/
def execSet_1_A (s : State) : Result := setBitOnReg .b1 .a s

/-- `SET 2,B` (R654). -/
def execSet_2_B (s : State) : Result := setBitOnReg .b2 .b s

/-- `SET 2,C` (R654). -/
def execSet_2_C (s : State) : Result := setBitOnReg .b2 .c s

/-- `SET 2,D` (R654). -/
def execSet_2_D (s : State) : Result := setBitOnReg .b2 .d s

/-- `SET 2,E` (R654). -/
def execSet_2_E (s : State) : Result := setBitOnReg .b2 .e s

/-- `SET 2,H` (R654). -/
def execSet_2_H (s : State) : Result := setBitOnReg .b2 .h s

/-- `SET 2,L` (R654). -/
def execSet_2_L (s : State) : Result := setBitOnReg .b2 .l s

/-- `SET 2,(HL)` (R655). -/
def execSet_2_atHL (s : State) : Result := setBitOnHL .b2 s

/-- `SET 2,A` (R654). -/
def execSet_2_A (s : State) : Result := setBitOnReg .b2 .a s

/-- `SET 3,B` (R654). -/
def execSet_3_B (s : State) : Result := setBitOnReg .b3 .b s

/-- `SET 3,C` (R654). -/
def execSet_3_C (s : State) : Result := setBitOnReg .b3 .c s

/-- `SET 3,D` (R654). -/
def execSet_3_D (s : State) : Result := setBitOnReg .b3 .d s

/-- `SET 3,E` (R654). -/
def execSet_3_E (s : State) : Result := setBitOnReg .b3 .e s

/-- `SET 3,H` (R654). -/
def execSet_3_H (s : State) : Result := setBitOnReg .b3 .h s

/-- `SET 3,L` (R654). -/
def execSet_3_L (s : State) : Result := setBitOnReg .b3 .l s

/-- `SET 3,(HL)` (R655). -/
def execSet_3_atHL (s : State) : Result := setBitOnHL .b3 s

/-- `SET 3,A` (R654). -/
def execSet_3_A (s : State) : Result := setBitOnReg .b3 .a s

/-- `SET 4,B` (R654). -/
def execSet_4_B (s : State) : Result := setBitOnReg .b4 .b s

/-- `SET 4,C` (R654). -/
def execSet_4_C (s : State) : Result := setBitOnReg .b4 .c s

/-- `SET 4,D` (R654). -/
def execSet_4_D (s : State) : Result := setBitOnReg .b4 .d s

/-- `SET 4,E` (R654). -/
def execSet_4_E (s : State) : Result := setBitOnReg .b4 .e s

/-- `SET 4,H` (R654). -/
def execSet_4_H (s : State) : Result := setBitOnReg .b4 .h s

/-- `SET 4,L` (R654). -/
def execSet_4_L (s : State) : Result := setBitOnReg .b4 .l s

/-- `SET 4,(HL)` (R655). -/
def execSet_4_atHL (s : State) : Result := setBitOnHL .b4 s

/-- `SET 4,A` (R654). -/
def execSet_4_A (s : State) : Result := setBitOnReg .b4 .a s

/-- `SET 5,B` (R654). -/
def execSet_5_B (s : State) : Result := setBitOnReg .b5 .b s

/-- `SET 5,C` (R654). -/
def execSet_5_C (s : State) : Result := setBitOnReg .b5 .c s

/-- `SET 5,D` (R654). -/
def execSet_5_D (s : State) : Result := setBitOnReg .b5 .d s

/-- `SET 5,E` (R654). -/
def execSet_5_E (s : State) : Result := setBitOnReg .b5 .e s

/-- `SET 5,H` (R654). -/
def execSet_5_H (s : State) : Result := setBitOnReg .b5 .h s

/-- `SET 5,L` (R654). -/
def execSet_5_L (s : State) : Result := setBitOnReg .b5 .l s

/-- `SET 5,(HL)` (R655). -/
def execSet_5_atHL (s : State) : Result := setBitOnHL .b5 s

/-- `SET 5,A` (R654). -/
def execSet_5_A (s : State) : Result := setBitOnReg .b5 .a s

/-- `SET 6,B` (R654). -/
def execSet_6_B (s : State) : Result := setBitOnReg .b6 .b s

/-- `SET 6,C` (R654). -/
def execSet_6_C (s : State) : Result := setBitOnReg .b6 .c s

/-- `SET 6,D` (R654). -/
def execSet_6_D (s : State) : Result := setBitOnReg .b6 .d s

/-- `SET 6,E` (R654). -/
def execSet_6_E (s : State) : Result := setBitOnReg .b6 .e s

/-- `SET 6,H` (R654). -/
def execSet_6_H (s : State) : Result := setBitOnReg .b6 .h s

/-- `SET 6,L` (R654). -/
def execSet_6_L (s : State) : Result := setBitOnReg .b6 .l s

/-- `SET 6,(HL)` (R655). -/
def execSet_6_atHL (s : State) : Result := setBitOnHL .b6 s

/-- `SET 6,A` (R654). -/
def execSet_6_A (s : State) : Result := setBitOnReg .b6 .a s

/-- `SET 7,B` (R654). -/
def execSet_7_B (s : State) : Result := setBitOnReg .b7 .b s

/-- `SET 7,C` (R654). -/
def execSet_7_C (s : State) : Result := setBitOnReg .b7 .c s

/-- `SET 7,D` (R654). -/
def execSet_7_D (s : State) : Result := setBitOnReg .b7 .d s

/-- `SET 7,E` (R654). -/
def execSet_7_E (s : State) : Result := setBitOnReg .b7 .e s

/-- `SET 7,H` (R654). -/
def execSet_7_H (s : State) : Result := setBitOnReg .b7 .h s

/-- `SET 7,L` (R654). -/
def execSet_7_L (s : State) : Result := setBitOnReg .b7 .l s

/-- `SET 7,(HL)` (R655). -/
def execSet_7_atHL (s : State) : Result := setBitOnHL .b7 s

/-- `SET 7,A` (R654). -/
def execSet_7_A (s : State) : Result := setBitOnReg .b7 .a s

end Sys2Proof.Machine
end

