-- ==== Sys2Proof/Machine/Control.lean ====
section
/-! DEFINITION. Jumps, calls, returns and restarts (`46_control.md` R700 to R712). PC stands past the
whole instruction when a meaning runs. No instruction here writes F. -/
namespace Sys2Proof.Machine

/-! ### Shared operations -/

/-- `pc <- target` (R701, R703). -/
def jump (target : Word) (s : State) : Result := .next { s with pc := target }

/-- JP cc,nn (R702). -/
def jumpIf (cc : Cond) (nn : Word) (s : State) : Result :=
  if s.f.cond cc then jump nn s else .next s

/-- JR e: relative to the address after the instruction, modulo 2^16 (R704). -/
def jumpRelative (e : Byte) (s : State) : Result := jump (s.pc + displacement e) s

/-- JR cc,e (R705). -/
def jumpRelativeIf (cc : Cond) (e : Byte) (s : State) : Result :=
  if s.f.cond cc then jumpRelative e s else .next s

/-- `Push16(PC); pc <- target` (R706, R711). -/
def call (target : Word) (s : State) : Result := .next { s.push16 s.pc with pc := target }

/-- CALL cc,nn: not taken touches neither SP nor memory (R707). -/
def callIf (cc : Cond) (nn : Word) (s : State) : Result :=
  if s.f.cond cc then call nn s else .next s

/-- `pc <- Pop16()` (R708). -/
def ret (s : State) : Result := s.pop16 fun v s => .next { s with pc := v }

/-- RET cc: not taken reads no memory (R709). -/
def retIf (cc : Cond) (s : State) : Result :=
  if s.f.cond cc then ret s else .next s

/-! ### The meanings -/

/-- `JR e` (R704). -/
def execJr_e (e : Byte) (s : State) : Result := jumpRelative e s

/-- `JR NZ,e` (R705). -/
def execJr_NZ_e (e : Byte) (s : State) : Result := jumpRelativeIf .nz e s

/-- `JR Z,e` (R705). -/
def execJr_Z_e (e : Byte) (s : State) : Result := jumpRelativeIf .z e s

/-- `JR NC,e` (R705). -/
def execJr_NC_e (e : Byte) (s : State) : Result := jumpRelativeIf .nc e s

/-- `JR C,e` (R705). -/
def execJr_C_e (e : Byte) (s : State) : Result := jumpRelativeIf .c e s

/-- `RET NZ` (R709). -/
def execRet_NZ (s : State) : Result := retIf .nz s

/-- `JP NZ,nn` (R702). -/
def execJp_NZ_nn (nn : Word) (s : State) : Result := jumpIf .nz nn s

/-- `JP nn` (R701). -/
def execJp_nn (nn : Word) (s : State) : Result := jump nn s

/-- `CALL NZ,nn` (R707). -/
def execCall_NZ_nn (nn : Word) (s : State) : Result := callIf .nz nn s

/-- `RST 00H` (R711). -/
def execRst_00 (s : State) : Result := call 0x0000 s

/-- `RET Z` (R709). -/
def execRet_Z (s : State) : Result := retIf .z s

/-- `RET` (R708). -/
def execRet (s : State) : Result := ret s

/-- `JP Z,nn` (R702). -/
def execJp_Z_nn (nn : Word) (s : State) : Result := jumpIf .z nn s

/-- `CALL Z,nn` (R707). -/
def execCall_Z_nn (nn : Word) (s : State) : Result := callIf .z nn s

/-- `CALL nn` (R706). -/
def execCall_nn (nn : Word) (s : State) : Result := call nn s

/-- `RST 08H` (R711). -/
def execRst_08 (s : State) : Result := call 0x0008 s

/-- `RET NC` (R709). -/
def execRet_NC (s : State) : Result := retIf .nc s

/-- `JP NC,nn` (R702). -/
def execJp_NC_nn (nn : Word) (s : State) : Result := jumpIf .nc nn s

/-- `CALL NC,nn` (R707). -/
def execCall_NC_nn (nn : Word) (s : State) : Result := callIf .nc nn s

/-- `RST 10H` (R711). -/
def execRst_10 (s : State) : Result := call 0x0010 s

/-- `RET C` (R709). -/
def execRet_C (s : State) : Result := retIf .c s

/-- `RETI` (R710). -/
def execReti (s : State) : Result := returnFromInterrupt s

/-- `JP C,nn` (R702). -/
def execJp_C_nn (nn : Word) (s : State) : Result := jumpIf .c nn s

/-- `CALL C,nn` (R707). -/
def execCall_C_nn (nn : Word) (s : State) : Result := callIf .c nn s

/-- `RST 18H` (R711). -/
def execRst_18 (s : State) : Result := call 0x0018 s

/-- `RST 20H` (R711). -/
def execRst_20 (s : State) : Result := call 0x0020 s

/-- `JP HL` (R703). -/
def execJp_HL (s : State) : Result := jump s.hl s

/-- `RST 28H` (R711). -/
def execRst_28 (s : State) : Result := call 0x0028 s

/-- `RST 30H` (R711). -/
def execRst_30 (s : State) : Result := call 0x0030 s

/-- `RST 38H` (R711). -/
def execRst_38 (s : State) : Result := call 0x0038 s

end Sys2Proof.Machine
end

