-- ==== Sys2Proof/Machine/System.lean ====
section
/-! DEFINITION. System and control-state instructions (`47_system.md` R750 to R757). -/
namespace Sys2Proof.Machine

/-! ### Shared operations -/

/-- NOP (R750). -/
def noOperation (s : State) : Result := .next s

/-- The extended instruction of second byte `o`, by its fields (`30_encoding.md` R316). -/
def extendedInstruction (o : Byte) (s : State) : Result :=
  match fieldX o, Reg8.ofCode (fieldZ o) with
  | 0, some r => shiftOnReg (ShiftOp.ofCode (fieldY o)) r s
  | 0, none => shiftOnHL (ShiftOp.ofCode (fieldY o)) s
  | 1, some r => testBitOnReg (BitIx.ofCode (fieldY o)) r s
  | 1, none => testBitOnHL (BitIx.ofCode (fieldY o)) s
  | 2, some r => resetBitOnReg (BitIx.ofCode (fieldY o)) r s
  | 2, none => resetBitOnHL (BitIx.ofCode (fieldY o)) s
  | _, some r => setBitOnReg (BitIx.ofCode (fieldY o)) r s
  | _, none => setBitOnHL (BitIx.ofCode (fieldY o)) s

/-- PREFIX CB: fetch the second byte and execute the extended instruction (R751). The sequencer decodes
both bytes at once, so it runs the extended instruction's own meaning (log entry 18). -/
def escape (s : State) : Result :=
  s.memRead s.pc fun o => extendedInstruction o { s with pc := s.pc + 1 }

/-- HALT (R752): with `halt_bug`, IME 0 and an enabled pending interrupt the CPU stays Running and the
next opcode fetch repeats. -/
def halt (s : State) : Result :=
  if s.haltBug && !s.ime && s.pending != 0 then .next { s with haltRepeat := true }
  else .next { s with run := .halted }

/-- STOP (R753). -/
def stop (s : State) : Result := .next { s with run := .stopped }

/-- DI (R755): immediate, and it cancels a pending EI. -/
def disableInterrupts (s : State) : Result := .next { s with ime := false, eiDelay := 0 }

/-- EI (R756): IME itself changes at the end of the following instruction. -/
def enableInterrupts (s : State) : Result := .next { s with eiDelay := 2 }

/-- An illegal opcode raises `IllegalOpcode` and does nothing else (R757, R840). -/
def illegalOpcode (op : Byte) (s : State) : Result := .next (s.illegal op)

/-! ### The meanings -/

/-- `NOP` (R750). -/
def execNop (s : State) : Result := noOperation s

/-- `STOP` (R753). -/
def execStop (_ : Byte) (s : State) : Result := stop s

/-- `HALT` (R752). -/
def execHalt (s : State) : Result := halt s

/-- `PREFIX CB` (R751). -/
def execPrefixCb (s : State) : Result := escape s

/-- `ILLEGAL_D3` (R757). -/
def execIllegal_D3 (s : State) : Result := illegalOpcode 0xD3 s

/-- `ILLEGAL_DB` (R757). -/
def execIllegal_DB (s : State) : Result := illegalOpcode 0xDB s

/-- `ILLEGAL_DD` (R757). -/
def execIllegal_DD (s : State) : Result := illegalOpcode 0xDD s

/-- `ILLEGAL_E3` (R757). -/
def execIllegal_E3 (s : State) : Result := illegalOpcode 0xE3 s

/-- `ILLEGAL_E4` (R757). -/
def execIllegal_E4 (s : State) : Result := illegalOpcode 0xE4 s

/-- `ILLEGAL_EB` (R757). -/
def execIllegal_EB (s : State) : Result := illegalOpcode 0xEB s

/-- `ILLEGAL_EC` (R757). -/
def execIllegal_EC (s : State) : Result := illegalOpcode 0xEC s

/-- `ILLEGAL_ED` (R757). -/
def execIllegal_ED (s : State) : Result := illegalOpcode 0xED s

/-- `DI` (R755). -/
def execDi (s : State) : Result := disableInterrupts s

/-- `ILLEGAL_F4` (R757). -/
def execIllegal_F4 (s : State) : Result := illegalOpcode 0xF4 s

/-- `EI` (R756). -/
def execEi (s : State) : Result := enableInterrupts s

/-- `ILLEGAL_FC` (R757). -/
def execIllegal_FC (s : State) : Result := illegalOpcode 0xFC s

/-- `ILLEGAL_FD` (R757). -/
def execIllegal_FD (s : State) : Result := illegalOpcode 0xFD s

end Sys2Proof.Machine
end

