-- ==== Sys2Proof/Machine/Timing.lean ====
section
/-! DEFINITION. The cycle count a step reports for an executed instruction (`70_reset_and_hazards.md`
R920 to R922). The counts are informational: nothing reads them (`60_exceptions.md` R824; log entry 20). -/
namespace Sys2Proof.Machine

/-- The count of each one-byte-page opcode, row by row of the grid R321, a conditional transfer as not
taken; 0 for the illegal bytes and the escape, which have no count of their own (R920). -/
def opcodeCycles : List Nat :=
  [4, 12, 8, 8, 4, 4, 8, 4, 20, 8, 8, 8, 4, 4, 8, 4]
    ++ [4, 12, 8, 8, 4, 4, 8, 4, 12, 8, 8, 8, 4, 4, 8, 4]
    ++ [8, 12, 8, 8, 4, 4, 8, 4, 8, 8, 8, 8, 4, 4, 8, 4]
    ++ [8, 12, 8, 8, 12, 12, 12, 4, 8, 8, 8, 8, 4, 4, 8, 4]
    ++ [4, 4, 4, 4, 4, 4, 8, 4, 4, 4, 4, 4, 4, 4, 8, 4]
    ++ [4, 4, 4, 4, 4, 4, 8, 4, 4, 4, 4, 4, 4, 4, 8, 4]
    ++ [4, 4, 4, 4, 4, 4, 8, 4, 4, 4, 4, 4, 4, 4, 8, 4]
    ++ [8, 8, 8, 8, 8, 8, 4, 8, 4, 4, 4, 4, 4, 4, 8, 4]
    ++ [4, 4, 4, 4, 4, 4, 8, 4, 4, 4, 4, 4, 4, 4, 8, 4]
    ++ [4, 4, 4, 4, 4, 4, 8, 4, 4, 4, 4, 4, 4, 4, 8, 4]
    ++ [4, 4, 4, 4, 4, 4, 8, 4, 4, 4, 4, 4, 4, 4, 8, 4]
    ++ [4, 4, 4, 4, 4, 4, 8, 4, 4, 4, 4, 4, 4, 4, 8, 4]
    ++ [8, 12, 12, 16, 12, 16, 8, 16, 8, 16, 12, 0, 12, 24, 8, 16]
    ++ [8, 12, 12, 0, 12, 16, 8, 16, 8, 16, 12, 0, 12, 0, 8, 16]
    ++ [12, 12, 8, 0, 0, 16, 8, 16, 16, 4, 16, 0, 0, 0, 8, 16]
    ++ [12, 12, 8, 4, 0, 16, 8, 16, 12, 8, 16, 4, 0, 0, 8, 16]

/-- The count of an extended opcode: 8 on a register, 16 on `(HL)`, 12 for BIT on `(HL)` (R920). -/
def extendedCycles (o : Byte) : Nat :=
  if fieldZ o = 6 then if fieldX o = 1 then 12 else 16 else 8

/-- The condition of a conditional transfer and its count when taken (R920, R922). -/
def takenCycles : Instr → Option (Cond × Nat)
  | .jr_NZ_e _ => some (.nz, 12)
  | .jr_Z_e _ => some (.z, 12)
  | .jr_NC_e _ => some (.nc, 12)
  | .jr_C_e _ => some (.c, 12)
  | .jp_NZ_nn _ => some (.nz, 16)
  | .jp_Z_nn _ => some (.z, 16)
  | .jp_NC_nn _ => some (.nc, 16)
  | .jp_C_nn _ => some (.c, 16)
  | .call_NZ_nn _ => some (.nz, 24)
  | .call_Z_nn _ => some (.z, 24)
  | .call_NC_nn _ => some (.nc, 24)
  | .call_C_nn _ => some (.c, 24)
  | .ret_NZ => some (.nz, 20)
  | .ret_Z => some (.z, 20)
  | .ret_NC => some (.nc, 20)
  | .ret_C => some (.c, 20)
  | _ => none

/-- The count of an instruction that does not branch on a condition, or does not take the branch. -/
def baseCycles (i : Instr) : Nat :=
  match encode i with
  | [0xCB, o] => extendedCycles o
  | o :: _ => opcodeCycles.getD o.toNat 0
  | [] => 0

/-- The T-cycles of an instruction executed with flags `f` (R920); the taken count exactly when
`cond(cc)` is true (R922). -/
def cycles (i : Instr) (f : Flags) : Nat :=
  match takenCycles i with
  | some (cc, n) => if f.cond cc then n else baseCycles i
  | none => baseCycles i

/-- The T-cycles of an interrupt dispatch (R812, R921). -/
def dispatchCycles : Nat := 20

end Sys2Proof.Machine
end

