-- ==== Sys2Proof/Machine/Sequencer.lean ====
section
/-! DEFINITION. The instruction sequencer: fetching an instruction's bytes, running its meaning, the end
of an instruction, and arbitration (`60_exceptions.md` R810 to R823). -/
namespace Sys2Proof.Machine

/-- Record what the step returns (R824; log entry 12). -/
def State.reported (s : State) (r : StepResult) : State := { s with report := r }

/-- `FetchByte()` (`00_scope.md` R15): the byte and the state with PC past it, or the faulted state. -/
def fetchByte (s : State) : Except State (Byte × State) :=
  match s.read s.pc with
  | some v => .ok (v, { s with pc := s.pc + 1 })
  | none => .error (s.uninitialized s.pc)

/-- The opcode fetch of R820: with `halt_repeat` set, PC stays and the latch is cleared. -/
def fetchOpcode (s : State) : Except State (Byte × State) :=
  if s.haltRepeat then
    match s.read s.pc with
    | some v => .ok (v, { s with haltRepeat := false })
    | none => .error (s.uninitialized s.pc)
  else fetchByte s

/-- The immediate bytes of an instruction, in address order (R251). -/
def fetchBytes : Nat → State → Except State (List Byte × State)
  | 0, s => .ok ([], s)
  | n + 1, s =>
    match fetchByte s with
    | .error t => .error t
    | .ok (v, s1) =>
      match fetchBytes n s1 with
      | .error t => .error t
      | .ok (vs, s2) => .ok (v :: vs, s2)

/-- All bytes of the instruction at PC, and the state with PC past them; `start` holds the address of the
first byte (R820, R303; log entry 11). -/
def fetchInstr (s : State) : Except State (List Byte × State) :=
  match fetchOpcode { s with start := s.pc } with
  | .error t => .error t
  | .ok (o, s1) =>
    match fetchBytes (instrLength o - 1) s1 with
    | .error t => .error t
    | .ok (vs, s2) => .ok (o :: vs, s2)

/-- `end_of_instruction()` (R823). -/
def State.endOfInstruction (s : State) : State :=
  match s.eiDelay with
  | 0 => s
  | 1 => { s with eiDelay := 0, ime := true }
  | 2 => { s with eiDelay := 1 }

/-- The end of a step that ran an instruction: a fault reports itself, any other instruction ends as R823
says and reports its cycles (R820). -/
def finish (n : Nat) (s : State) : State :=
  match s.run with
  | .faulted r => s.reported (.fault r)
  | _ => s.endOfInstruction.reported (.executed n)

/-- Fetch, decode and execute one instruction (R820). -/
def executeNext (s : State) : Result :=
  match fetchInstr s with
  | .error t => .next (finish 0 t)
  | .ok (bytes, s1) =>
    match decode bytes with
    | .error _ => .refused .undecodable
    | .ok (i, _) =>
      match exec i s1 with
      | .next t => .next (finish (cycles i s1.f) t)
      | other => other

/-- An interrupt is taken at this boundary (R810). -/
def State.takesInterrupt (s : State) : Bool := s.ime && s.pending != 0

/-- The source a dispatch takes (R811). -/
def State.source (s : State) : Nat := lowestSource s.pending

/-- A Running step: arbitration, then dispatch or an instruction (R820). -/
def runningStep (s : State) : Result :=
  if s.takesInterrupt then
    .next (s.dispatch.reported (.serviced (vector s.source) dispatchCycles))
  else executeNext s

/-- A Halted step: idle without an enabled pending interrupt, else the CPU wakes and the same step goes on
(R821, `90_conflicts.md` C3). -/
def haltedStep (s : State) : Result :=
  if s.pending = 0 then .next (s.reported .idle)
  else runningStep { s with run := .running }

/-- `step()` once an image is loaded, by the run state (R820, R843). -/
def loadedStep (s : State) : Result :=
  match s.run with
  | .faulted _ => .next (s.reported .noStep)
  | .stopped => .next (s.reported .idle)
  | .halted => haltedStep s
  | .running => runningStep s

/-- `step()` (R820): nothing happens before an image is loaded (`70_reset_and_hazards.md` R901, R903). -/
def sequencerStep (s : State) : Result :=
  match s.cart with
  | none => .next (s.reported .noStep)
  | some _ => loadedStep s

/-! ### Placing bytes in front of the fetch (log entry 1) -/

/-- The cartridge of a 32 KiB image of zero bytes: type byte 0x00, RAM code 0x00, so no banking controller
and no RAM (`20_memory.md` R242, R243). -/
def blankCartridge : Cartridge :=
  { scheme := .none, rom := { size := 0x8000, cells := [] }, ram := none, ramInit := [] }

/-- A byte of a ROM image replaced, keeping the canonical form. -/
def RomImage.put (r : RomImage) (off : Nat) (v : Byte) : RomImage :=
  { r with cells :=
      if v = RomImage.fill then r.cells.filter (fun p => p.1 != off) else r.cells.write off v }

/-- Store a byte so that a read of `a` gives it: in the image where `a` reads ROM, by a write elsewhere. -/
def State.place (s : State) (a : Word) (v : Byte) : State :=
  match region a with
  | .rom =>
    let c := s.cart.getD blankCartridge
    { s with cart := some { c with rom := c.rom.put (romOffset c s.bank a) v } }
  | _ => s.write a v

/-- Store bytes at rising addresses from `a`. -/
def State.placeAll (s : State) (a : Word) : List Byte → State
  | [] => s
  | v :: vs => (s.place a v).placeAll (a + 1) vs

/-- A state whose next step fetches an instruction at PC: an image is loaded, the CPU is Running, no
interrupt is taken, and no byte is repeated. -/
def State.readyToFetch (s : State) : State :=
  { s with
    cart := some (s.cart.getD blankCartridge)
    run := .running
    ime := s.ime && !s.takesInterrupt
    haltRepeat := false }

/-- The bytes of a table row, padded with zero bytes to the longest instruction. -/
def fetchWordBytes (nbits w : Nat) : List Byte := (tableBytes nbits w ++ [0, 0]).take 3

end Sys2Proof.Machine
end

