-- ==== Sys2Proof/Machine/Step.lean ====
section
/-! DEFINITION. One step of the machine, and the placing of an instruction where it fetches. -/
namespace Sys2Proof.Machine

/-- `step()` (`60_exceptions.md` R820). -/
def step (s : State) : Host.Outcome State Fault Refusal := sequencerStep s

/-- The state with the instruction of a table row stored where `step` fetches next, and nothing in the way
of that fetch: it stands for the host's `loadImage` of a program (log entry 1). -/
def State.withFetchWord (s : State) (nbits w : Nat) : State :=
  s.readyToFetch.placeAll s.pc (fetchWordBytes nbits w)

end Sys2Proof.Machine
end

