-- ==== Sys2Proof/Machine/HostOps.lean ====
section
/-! DEFINITION. The operations the host and the peripherals have on the CORE between two steps
(`00_scope.md` R9, R11; log entry 14). -/
namespace Sys2Proof.Machine

/-! ### Loading an image (`20_memory.md` R240 to R244) -/

/-- Why `loadImage` refuses (R240). `ramInitLength` is a `cart_ram_init` of the wrong length, to which the
spec gives no name (R244, D44; log entry 16). -/
inductive InvalidImage where
  | undersized
  | unsupportedScheme
  | unsupportedRamSize
  | ramInitLength
  deriving DecidableEq, Repr

/-- The scheme of a type byte (R242). -/
def schemeOf (t : Byte) : Option Scheme :=
  if t = 0x00 then some .none
  else if t = 0x01 ∨ t = 0x02 ∨ t = 0x03 then some .mbc1
  else none

/-- The RAM size of a size code (R243). -/
def ramSizeOf (c : Byte) : Option Nat :=
  if c = 0x00 then some 0
  else if c = 0x02 then some 0x2000
  else if c = 0x03 then some 0x8000
  else none

/-- The bytes of a list by offset, from `k` on. -/
def cellsFrom (k : Nat) : List Byte → Memory
  | [] => []
  | v :: vs => (k, v) :: cellsFrom (k + 1) vs

/-- A ROM image from its bytes (log entry 9). -/
def RomImage.ofBytes (bytes : List Byte) : RomImage :=
  { size := bytes.length, cells := (cellsFrom 0 bytes).filter (fun p => p.2 != RomImage.fill) }

/-- The RAM image of a size, holding the initial bytes; none for size 0 (R243, R244). -/
def ramImageOf (size : Nat) (init : Memory) : Option RamImage :=
  if size = 0 then none else some { size := size, cells := init }

/-- The cartridge of an image, with the checks in the order of R240: length, type byte, RAM code, then the
length of `cart_ram_init`. -/
def cartridgeOf (bytes : List Byte) (ramInit : Option (List Byte)) :
    Except InvalidImage Cartridge :=
  if bytes.length < 0x8000 then .error .undersized
  else
    match schemeOf (bytes.getD 0x0147 0) with
    | none => .error .unsupportedScheme
    | some scheme =>
      match ramSizeOf (bytes.getD 0x0149 0) with
      | none => .error .unsupportedRamSize
      | some size =>
        match ramInit with
        | none =>
          .ok { scheme, rom := RomImage.ofBytes bytes, ram := ramImageOf size [], ramInit := [] }
        | some init =>
          if init.length = size then
            .ok { scheme, rom := RomImage.ofBytes bytes,
                  ram := ramImageOf size (cellsFrom 0 init), ramInit := cellsFrom 0 init }
          else .error .ramInitLength

/-- A cartridge as a reset leaves it: `rom` and `scheme` stay, the RAM takes `cart_ram_init`, else every
byte is unwritten (R115, D42). -/
def Cartridge.afterReset (c : Cartridge) : Cartridge :=
  { c with ram := c.ram.map fun r => { r with cells := c.ramInit } }

/-- `reset()` (`70_reset_and_hazards.md` R900, R901). -/
def State.hostReset (s : State) : State :=
  { State.reset with cart := s.cart.map Cartridge.afterReset, haltBug := s.haltBug }

/-- `loadImage(bytes)`: the answer and the state. A failure leaves nothing runnable (R240, R903); a success
installs the cartridge and resets (R244). -/
def State.loadImage (s : State) (bytes : List Byte) (ramInit : Option (List Byte)) :
    Except InvalidImage Unit × State :=
  match cartridgeOf bytes ramInit with
  | .error r => (.error r, { s with cart := none })
  | .ok c => (.ok (), { s with cart := some c }.hostReset)

/-! ### Interrupt requests, wake, and the I/O bank -/

/-- `requestInterrupt(k)` (`60_exceptions.md` R803): none, a host error with no state change, for `k` above
4 (D33). -/
def State.requestInterrupt (s : State) (k : Nat) : Option State :=
  if k ≤ 4 then some { s with ifReg := s.ifReg ||| (1#8 <<< k) } else none

/-- `wake()` (`47_system.md` R754). -/
def State.wake (s : State) : State :=
  match s.run with
  | .stopped => { s with run := .running }
  | _ => s

/-- A write of the environment to byte `k` of the I/O bank (R11, R207); IF, byte 0x0F, is reached by
`requestInterrupt` only. -/
def State.environmentWrite (s : State) (k : Fin 128) (v : Byte) : State :=
  if k = 0x0F then s else { s with io := s.io.set k v }

end Sys2Proof.Machine
end

