-- ==== Sys2Proof/Safety.lean ====
section
/-! DEFINITION. What counts as a good state and as the end of a run, in the terms claims use. -/
namespace Sys2Proof.Machine

/-- The ranges of addresses whose bytes `mem` holds: `vram`, `wram`, `oam` and `hram`
(`10_state.md` R113). -/
abbrev backed (a : Nat) : Prop :=
  (0x8000 ≤ a ∧ a < 0xA000) ∨ (0xC000 ≤ a ∧ a < 0xE000) ∨ (0xFE00 ≤ a ∧ a < 0xFEA0) ∨
    (0xFF80 ≤ a ∧ a < 0xFFFF)

/-- A cartridge RAM image of a size the header codes give, in canonical form, every byte inside it
(R112, `20_memory.md` R243). -/
def RamImage.good (r : RamImage) : Prop :=
  (r.size = 0x2000 ∨ r.size = 0x8000) ∧ r.cells.wf ∧ ∀ p ∈ r.cells, p.1 < r.size

/-- A ROM image of legal length, in canonical form: every listed byte inside it and not the fill byte
(R112, R241). -/
def RomImage.good (r : RomImage) : Prop :=
  0x8000 ≤ r.size ∧ r.cells.wf ∧ ∀ p ∈ r.cells, p.1 < r.size ∧ p.2 ≠ RomImage.fill

/-- A cartridge as `loadImage` builds it and the CORE keeps it, `cart_ram_init` included. -/
def Cartridge.good (c : Cartridge) : Prop :=
  c.rom.good ∧ c.ramInit.wf ∧ ∀ r ∈ c.ram, r.good ∧ ∀ p ∈ c.ramInit, p.1 < r.size

/-- The invariant of the machine: the byte stores are canonical and hold only bytes that exist; the low
ROM-bank selector is never zero (R112); without `halt_bug` the HALT-repeat latch is 0 (R111). -/
structure State.Good (s : State) : Prop where
  mem_wf : s.mem.wf
  mem_backed : ∀ p ∈ s.mem, backed p.1
  cart_good : ∀ c ∈ s.cart, c.good
  bank_nonzero : s.bank.romBankLow ≠ 0
  repeat_clear : s.haltBug = false → s.haltRepeat = false

/-- The run state is not Faulted: nothing has stopped the CORE (R107). -/
def State.safe (s : State) : Bool :=
  match s.run with
  | .faulted _ => false
  | _ => true

/-- Where a run ends, for a claim about its end state (`92_eei_decisions.md` D24, parameter `stop_pc`): PC
is `stop_pc` while Running, or the CPU is Halted or Stopped with nothing that can wake it. A Faulted run has no
end state.

DESIGN CHOICE (log entry 15): D24 does not say whether a host call still to come can wake it, and the model
counts none. So Halted ends a run whenever `IE & IF & 0x1F` is 0, also where `IE & 0x1F` is not 0 and a
`requestInterrupt` could wake it, and Stopped ends one though `wake` could. Unsafe for a claim that is read as
covering later host calls. -/
def State.runEnded (stopPc : Option Word) (s : State) : Bool :=
  match s.run with
  | .running => stopPc == some s.pc
  | .halted => s.pending == 0
  | .stopped => true
  | .faulted _ => false

end Sys2Proof.Machine
end

