-- ==== Sys2Proof/Certificates/Slice0/Obligations.lean ====
section
/-! DEFINITION. The statements for the provers, from the numbered rules of `spec/`. First the words they
are written in (namespace `Sys2Proof.Claims`): operand codes, flag formulas, address ranges and frames,
written from the rules and not from the model's own definitions. -/
namespace Sys2Proof.Claims
open Sys2Proof.Machine

/-! ### Operand codes (R310 to R315) -/

/-- The register code `r` (R310). -/
def regCode : Reg8 → BitVec 3
  | .b => 0
  | .c => 1
  | .d => 2
  | .e => 3
  | .h => 4
  | .l => 5
  | .a => 7

/-- The pair code `rp` (R311). -/
def pairCode : RegPair → BitVec 2
  | .bc => 0
  | .de => 1
  | .hl => 2
  | .sp => 3

/-- The pair code `rp2` (R312). -/
def stackCode : StackPair → BitVec 2
  | .bc => 0
  | .de => 1
  | .hl => 2
  | .af => 3

/-- The condition code `cc` (R313). -/
def condCode : Cond → BitVec 2
  | .nz => 0
  | .z => 1
  | .nc => 2
  | .c => 3

/-- The ALU operation code (R314). -/
def aluCode : AluOp → BitVec 3
  | .add => 0
  | .adc => 1
  | .sub => 2
  | .sbc => 3
  | .and => 4
  | .xor => 5
  | .or => 6
  | .cp => 7

/-- The shift operation code (R315). -/
def shiftCode : ShiftOp → BitVec 3
  | .rlc => 0
  | .rrc => 1
  | .rl => 2
  | .rr => 3
  | .sla => 4
  | .sra => 5
  | .swap => 6
  | .srl => 7

/-- A bit number as a field of three bits. -/
def bitCode (b : BitIx) : BitVec 3 := BitVec.ofNat 3 (bitNumber b)

/-- `cond(cc)` (R313, R700). -/
def holds (f : Flags) : Cond → Prop
  | .nz => f.z = false
  | .z => f.z = true
  | .nc => f.c = false
  | .c => f.c = true

/-- The carry flag as a number. -/
def carry (s : State) : Nat := if s.f.c then 1 else 0

/-- What the model fault leaves when the read of `x` finds no byte (R206, R841): the Faulted run state
with the address and the address of the instruction's first byte, and nothing else changed. That the fault
is a next state, what it leaves besides the record, and the field `start` are the model's (log entries 3, 4
and 11): R841 lets no claim about a program rest on the partial state. -/
def stoppedAt (s : State) (x : Word) : State := { s with run := .faulted (.uninitializedRead x s.start) }

/-! ### The flag engine in numbers (R500 to R504, R534, R536, R550, R551) -/

/-- `x[A] <- add8(x[A], v, cin)` (R500). -/
def adds (cin : Nat) (v : Byte) (s t : State) : Prop :=
  ∃ r f, t = { s with a := r, f := f } ∧ r.toNat = (s.a.toNat + v.toNat + cin) % 256 ∧
    (f.z = true ↔ (s.a.toNat + v.toNat + cin) % 256 = 0) ∧ f.n = false ∧
    (f.h = true ↔ s.a.toNat % 16 + v.toNat % 16 + cin > 15) ∧
    (f.c = true ↔ s.a.toNat + v.toNat + cin > 255)

/-- The flags of `sub8(a, v, bin)` (R501). -/
def borrowFlags (a v bin : Nat) (f : Flags) : Prop :=
  (f.z = true ↔ ((a : Int) - v - bin) % 256 = 0) ∧ f.n = true ∧
    (f.h = true ↔ a % 16 < v % 16 + bin) ∧ (f.c = true ↔ a < v + bin)

/-- `x[A] <- sub8(x[A], v, bin)` (R501). -/
def subtracts (bin : Nat) (v : Byte) (s t : State) : Prop :=
  ∃ r f, t = { s with a := r, f := f } ∧
    (r.toNat : Int) = ((s.a.toNat : Int) - v.toNat - bin) % 256 ∧
    borrowFlags s.a.toNat v.toNat bin f

/-- `discard <- sub8(x[A], v, 0)` (R531): A stays. -/
def compares (v : Byte) (s t : State) : Prop :=
  ∃ f, t = { s with f := f } ∧ borrowFlags s.a.toNat v.toNat 0 f

/-- A gets `r`; Z says whether it is 0, N and C are 0, H is `h` (R502 to R504). -/
def logicResult (r : Byte) (h : Bool) (s t : State) : Prop :=
  ∃ z, t = { s with a := r, f := { z := z, n := false, h := h, c := false } } ∧
    (z = true ↔ r.toNat = 0)

/-- The three forms of an ALU operation (R505) with their encodings: a register, the byte at HL, an
immediate. Each gives a next state, that of `effect` on the operand; an unwritten byte at HL stops it (R206,
R841), and what that stop leaves is the model's (log entries 3, 4 and 11, see `stoppedAt`). -/
def aluForms (op : AluOp) (effect : Byte → State → State → Prop) : Prop :=
  (∀ r, encode (Instr.aluReg op r) = [0b10#2 ++ aluCode op ++ regCode r]) ∧
  encode (Instr.aluHL op) = [0b10#2 ++ aluCode op ++ 0b110#3] ∧
  (∀ n, encode (Instr.aluImm op n) = [0b11#2 ++ aluCode op ++ 0b110#3, n]) ∧
  (∀ r s, ∃ t, exec (Instr.aluReg op r) s = .next t ∧ effect (s.reg r) s t) ∧
  (∀ n s, ∃ t, exec (Instr.aluImm op n) s = .next t ∧ effect n s t) ∧
  (∀ v s, s.read s.hl = some v → ∃ t, exec (Instr.aluHL op) s = .next t ∧ effect v s t) ∧
  (∀ s, s.read s.hl = none → exec (Instr.aluHL op) s = .next (stoppedAt s s.hl))

/-- `r` is `v + 1` modulo 256, with the flags of INC: C is kept (R534). -/
def increments (v r : Byte) (f f' : Flags) : Prop :=
  r.toNat = (v.toNat + 1) % 256 ∧ (f'.z = true ↔ (v.toNat + 1) % 256 = 0) ∧ f'.n = false ∧
    (f'.h = true ↔ v.toNat % 16 + 1 > 15) ∧ f'.c = f.c

/-- `r` is `v - 1` modulo 256, with the flags of DEC: C is kept (R536). -/
def decrements (v r : Byte) (f f' : Flags) : Prop :=
  r.toNat = (v.toNat + 255) % 256 ∧ (f'.z = true ↔ (v.toNat + 255) % 256 = 0) ∧ f'.n = true ∧
    (f'.h = true ↔ v.toNat % 16 < 1) ∧ f'.c = f.c

/-- The value `w` of DAA after its corrections, unwrapped, and the carry it leaves (R538). -/
def daaValue (a : Nat) (f : Flags) : Int × Bool :=
  if f.n = false then
    let w : Nat := a + if f.h = true ∨ a % 16 > 9 then 0x06 else 0
    (((w + if f.c = true ∨ w > 0x99 then 0x60 else 0 : Nat) : Int), f.c || decide (w > 0x99))
  else ((a : Int) - (if f.h then 0x06 else 0) - (if f.c then 0x60 else 0), f.c)

/-- `r` and `f` are the result and the flags of `addSPe(sp, e)` (R551). -/
def displaces (sp : Word) (e : Byte) (r : Word) (f : Flags) : Prop :=
  (r.toNat : Int) = ((sp.toNat : Int) + e.toInt) % 65536 ∧ f.z = false ∧ f.n = false ∧
    (f.h = true ↔ sp.toNat % 16 + e.toNat % 16 > 15) ∧
    (f.c = true ↔ sp.toNat % 256 + e.toNat > 255)

/-- The result of the shift unit (R600), as a concatenation of fields of the operand. -/
def shifted (op : ShiftOp) (v : Byte) (cin : Bool) : Byte :=
  match op with
  | .rlc => v.extractLsb' 0 7 ++ v.extractLsb' 7 1
  | .rrc => v.extractLsb' 0 1 ++ v.extractLsb' 1 7
  | .rl => v.extractLsb' 0 7 ++ BitVec.ofBool cin
  | .rr => BitVec.ofBool cin ++ v.extractLsb' 1 7
  | .sla => v.extractLsb' 0 7 ++ 0#1
  | .sra => v.extractLsb' 7 1 ++ v.extractLsb' 1 7
  | .swap => v.extractLsb' 0 4 ++ v.extractLsb' 4 4
  | .srl => 0#1 ++ v.extractLsb' 1 7

/-- The bit the shift unit shifts out (R600). -/
def shiftedOut (op : ShiftOp) (v : Byte) : Bool :=
  match op with
  | .rlc => v.getLsbD 7
  | .rrc => v.getLsbD 0
  | .rl => v.getLsbD 7
  | .rr => v.getLsbD 0
  | .sla => v.getLsbD 7
  | .sra => v.getLsbD 0
  | .swap => false
  | .srl => v.getLsbD 0

/-- The flags a shift of the extended page writes. -/
def shiftWrites (op : ShiftOp) (v : Byte) (cin : Bool) : Flags :=
  { z := decide ((shifted op v cin).toNat = 0), n := false, h := false, c := shiftedOut op v }

/-! ### Addresses -/

/-- The byte an address names, the echo region folded onto work RAM (R203). -/
def home (x : Word) : Nat :=
  if 0xE000 ≤ x.toNat ∧ x.toNat < 0xFE00 then x.toNat - 0x2000 else x.toNat

/-- The windows whose contents a banking register selects (R224, R225). -/
def banked (x : Word) : Prop :=
  (0x4000 ≤ x.toNat ∧ x.toNat < 0x8000) ∨ (0xA000 ≤ x.toNat ∧ x.toNat < 0xC000)

/-- The bytes of the RAM arrays and the cartridge RAM window, which can be unwritten (R206). -/
def ramAddress (x : Word) : Prop :=
  (0x8000 ≤ x.toNat ∧ x.toNat < 0xFEA0) ∨ (0xFF80 ≤ x.toNat ∧ x.toNat < 0xFFFF)

/-- The cartridge RAM window reaches a byte at `x`: MBC1, RAM present and enabled, offset inside it
(R228). -/
def ramMapped (s : State) (x : Word) : Prop :=
  ∃ c r, s.cart = some c ∧ c.scheme = .mbc1 ∧ c.ram = some r ∧ s.bank.ramEnable = true ∧
    (if s.bank.bankMode = .ramBanking then s.bank.bankHigh.toNat else 0) * 0x2000
      + (x.toNat - 0xA000) < r.size

/-- A write of `x` stores a byte that a read of `x` gives back (R202): everywhere but ROM, the unmapped
range, and a cartridge RAM window that reaches no RAM. -/
def storesAt (s : State) (x : Word) : Prop :=
  0x8000 ≤ x.toNat ∧ ¬(0xFEA0 ≤ x.toNat ∧ x.toNat < 0xFF00) ∧
    ((0xA000 ≤ x.toNat ∧ x.toNat < 0xC000) → ramMapped s x)

/-- The bytes of `vs` stand at the addresses from `x` on. -/
def bytesAt (s : State) (x : Word) : List Byte → Prop
  | [] => True
  | v :: vs => s.read x = some v ∧ bytesAt s (x + 1) vs

/-- `Push16(v)` as two writes (R15). -/
def pushed (s : State) (v : Word) : State :=
  { (s.write (s.sp - 1) (highByte v)).write (s.sp - 2) (lowByte v) with sp := s.sp - 2 }

/-! ### Instructions by their bytes -/

/-- The eleven illegal bytes (R330). -/
def illegalBytes : List Byte :=
  [0xD3, 0xDB, 0xDD, 0xE3, 0xE4, 0xEB, 0xEC, 0xED, 0xF4, 0xFC, 0xFD]

/-- The instruction's rule has a flags line other than "none" (R104). -/
def writesFlags (i : Instr) : Bool :=
  match encode i with
  | [0xCB, o] => o.toNat < 0x80
  | o :: _ =>
    let x := o.toNat / 64
    let z := o.toNat % 8
    (x == 0 && (z == 4 || z == 5 || z == 7 || (z == 1 && o.toNat / 8 % 2 == 1))) || x == 2
      || (x == 3 && z == 6) || [0xE8, 0xF8, 0xF1].contains o.toNat
  | [] => false

/-- The 8-bit registers of a pair code. -/
def pairRegs : Nat → List Reg8
  | 0 => [.b, .c]
  | 1 => [.d, .e]
  | 2 => [.h, .l]
  | _ => []

/-- The register of a register code; none for code 6. -/
def codeRegs : Nat → List Reg8
  | 0 => [.b]
  | 1 => [.c]
  | 2 => [.d]
  | 3 => [.e]
  | 4 => [.h]
  | 5 => [.l]
  | 6 => []
  | _ => [.a]

/-- The 8-bit registers the instruction's rule writes, by the fields of its opcode (R320, R316): its
destination, A or HL where they are implicit, and HL where it steps. -/
def writtenRegs (i : Instr) : List Reg8 :=
  match encode i with
  | [0xCB, o] => if o.toNat / 64 = 1 then [] else codeRegs (o.toNat % 8)
  | o :: _ =>
    let y := o.toNat / 8 % 8
    let z := o.toNat % 8
    match o.toNat / 64 with
    | 0 =>
      match z with
      | 0 => []
      | 1 => if y % 2 = 0 then pairRegs (y / 2) else [.h, .l]
      | 2 => (if y % 2 = 1 then [.a] else []) ++ (if y ≥ 4 then [.h, .l] else [])
      | 3 => pairRegs (y / 2)
      | 7 => if y < 6 then [.a] else []
      | _ => codeRegs y
    | 1 => codeRegs y
    | 2 => if y = 7 then [] else [.a]
    | _ =>
      if z = 6 then (if y = 7 then [] else [.a])
      else if z = 1 ∧ y % 2 = 0 then (if y = 6 then [.a] else pairRegs (y / 2))
      else if o = 0xF0 ∨ o = 0xF2 ∨ o = 0xFA then [.a]
      else if o = 0xF8 then [.h, .l]
      else []
  | [] => []

/-- The instruction's rule writes SP (R105): LD SP,nn, LD SP,HL, INC SP, DEC SP, ADD SP,e, PUSH, POP,
CALL, RET, RETI and RST. -/
def writesSP (i : Instr) : Bool :=
  match encode i with
  | [0xCB, _] => false
  | o :: _ =>
    let y := o.toNat / 8 % 8
    let z := o.toNat % 8
    [0x31, 0x33, 0x3B, 0xE8, 0xF9, 0xC9, 0xD9].contains o.toNat
      || (o.toNat ≥ 0xC0 && ((z == 0 && y < 4) || (z == 1 && y % 2 == 0) || (z == 4 && y < 4)
        || (z == 5 && y % 2 == 0) || z == 5 && y == 1 || z == 7))
  | [] => false

/-- The word of two immediate bytes, low byte first (R304). -/
def immediateWord : List Byte → Word
  | [_, lo, hi] => hi ++ lo
  | _ => 0

/-- The addresses the instruction writes to, in state `s`, by its rule: the address operand of its
encoding, or the two stack bytes of a push, a call taken or a restart. -/
def storedAddresses (i : Instr) (s : State) : List Word :=
  let stack := [s.sp - 1, s.sp - 2]
  let nn := immediateWord (encode i)
  match encode i with
  | [0xCB, o] => if o.toNat % 8 = 6 ∧ o.toNat / 64 ≠ 1 then [s.hl] else []
  | [0xE0, n] => [0xFF00 + n.setWidth 16]
  | o :: _ =>
    let y := o.toNat / 8 % 8
    let z := o.toNat % 8
    match o.toNat / 64 with
    | 0 =>
      if o = 0x08 then [nn, nn + 1]
      else if o = 0x02 then [s.bc]
      else if o = 0x12 then [s.de]
      else if o = 0x22 ∨ o = 0x32 ∨ o = 0x34 ∨ o = 0x35 ∨ o = 0x36 then [s.hl]
      else []
    | 1 => if y = 6 ∧ z ≠ 6 then [s.hl] else []
    | 2 => []
    | _ =>
      if o = 0xE2 then [0xFF00 + s.c.setWidth 16]
      else if o = 0xEA then [nn]
      else if z = 7 ∨ o = 0xCD ∨ (z = 5 ∧ y % 2 = 0) then stack
      else if z = 4 ∧ y < 4 then
        if (y = 0 ∧ s.f.z = false) ∨ (y = 1 ∧ s.f.z = true) ∨ (y = 2 ∧ s.f.c = false)
          ∨ (y = 3 ∧ s.f.c = true) then stack else []
      else []
  | [] => []

/-! ### Steps -/

/-- A step that begins in `s` takes no interrupt (R810). -/
def noInterrupt (s : State) : Prop := s.ime = false ∨ s.ieReg &&& s.ifReg &&& 0x1F = 0

/-- The state in which an instruction of `n` bytes runs: its first byte's address is noted, PC stands past
its bytes, and the repeat latch is spent; with the latch set the opcode byte does not move PC (R820). -/
def fetched (s : State) (n : Nat) : State :=
  { s with
    start := s.pc
    haltRepeat := false
    pc := s.pc + BitVec.ofNat 16 (if s.haltRepeat then n - 1 else n) }

/-- The end of a step that ran an instruction of `n` cycles: a fault is reported; otherwise the countdown
of R823 runs and the cycles are reported. -/
def afterInstruction (n : Nat) (t : State) : State :=
  match t.run with
  | .faulted r => { t with report := .fault r }
  | _ =>
    { t with
      ime := t.ime || t.eiDelay == 1
      eiDelay := if t.eiDelay = 2 then 1 else 0
      report := .executed n }

/-- What `reset()` leaves (R115), but for the cartridge. -/
def resetValues (t : State) : Prop :=
  t.a = 0x01 ∧ t.f.toByte = 0xB0 ∧ t.b = 0x00 ∧ t.c = 0x13 ∧ t.d = 0x00 ∧ t.e = 0xD8 ∧
  t.h = 0x01 ∧ t.l = 0x4D ∧ t.af = 0x01B0 ∧ t.bc = 0x0013 ∧ t.de = 0x00D8 ∧ t.hl = 0x014D ∧
  t.sp = 0xFFFE ∧ t.pc = 0x0100 ∧ t.run = .running ∧ t.ime = false ∧ t.eiDelay = 0 ∧
  t.haltRepeat = false ∧ t.ieReg = 0x00 ∧ t.ifReg = Config.resetIf ∧
  t.bank.ramEnable = false ∧ t.bank.romBankLow = 1 ∧ t.bank.bankHigh = 0 ∧
  t.bank.bankMode = .romBanking ∧ t.mem = [] ∧
  ∀ k : Nat, k < 128 → k ≠ 0x0F → t.io[k]? = some (Config.ioInitial k)

end Sys2Proof.Claims

open Sys2Proof Sys2Proof.Machine Sys2Proof.Claims

/-! ## Reset and the invariant -/

/-- R115, R900: after `reset()` every piece of state holds the value of the table. `rom`, `scheme` and
whether there is a RAM stay; a RAM takes `cart_ram_init`. Before any load there is no cartridge (R901). The
model's own: that `State.reset` is the machine before any load (log entry 1), that `reset_if` and
`io_initial` are constants of Config (log entries 5 and 6), and that `cart_ram_init` is kept with the cartridge
(log entry 8). -/
def Obligations.ResetLeavesTheTableValues : Prop :=
  (resetValues State.reset ∧ State.reset.cart = none) ∧
  ∀ s : State, resetValues s.hostReset ∧
    (s.cart = none → s.hostReset.cart = none) ∧
    ∀ c, s.cart = some c → ∃ c', s.hostReset.cart = some c' ∧ c'.rom = c.rom ∧
      c'.scheme = c.scheme ∧ c'.ramInit = c.ramInit ∧
      c'.ram = c.ram.map fun r => { r with cells := c.ramInit }

/-- The invariant `State.Good` holds right after reset. -/
def Obligations.GoodAtReset : Prop := State.reset.Good

/-- Every step keeps the invariant: the byte stores stay canonical and hold only bytes that exist, the
cartridge stays as `loadImage` built it, the low ROM-bank selector is never zero, and without `halt_bug`
the HALT-repeat latch is 0 (R111, R112, R113). -/
def Obligations.EveryStepKeepsTheInvariant : Prop :=
  ∀ s t : State, s.Good → step s = .next t → t.Good

/-- Every operation of the host and of the environment keeps the invariant, a refused load included. That
these operations are functions beside `step`, and that a refused load keeps every field but the cartridge, is
the model's (log entries 14 and 16). -/
def Obligations.HostOperationsKeepTheInvariant : Prop :=
  ∀ s : State, s.Good →
    s.hostReset.Good ∧ s.wake.Good ∧
    (∀ bytes ramInit, (s.loadImage bytes ramInit).2.Good) ∧
    (∀ k t, s.requestInterrupt k = some t → t.Good) ∧
    ∀ k v, (s.environmentWrite k v).Good

/-- A step always answers a next state: no state, instruction or operand ends the machine outside the run
states of R107 (R208, R842). That a step which raises a fault is among them is the model's choice (log entry
3): the `step()` of R820 returns `Fault`, and the model enters the Faulted run state with the record as a next
state and keeps the returned value in `report` (log entry 12). -/
def Obligations.EveryStepAnswersANextState : Prop := ∀ s : State, ∃ t, step s = .next t

/-- No step changes `rom` or `scheme`, the size of the cartridge RAM, or whether there is a cartridge (R112,
R202, R244, R253). Nor does one change the parameters `halt_bug` and `cart_ram_init` of R8: that the first is a
field of State which no step changes (log entry 7), and that the second is kept with the cartridge (log entry
8), is the model's. -/
def Obligations.NoStepWritesTheRom : Prop :=
  ∀ s t : State, step s = .next t →
    t.haltBug = s.haltBug ∧ (s.cart = none → t.cart = none) ∧
    ∀ c, s.cart = some c → ∃ c', t.cart = some c' ∧ c'.rom = c.rom ∧ c'.scheme = c.scheme ∧
      c'.ramInit = c.ramInit ∧ c'.ram.map RamImage.size = c.ram.map RamImage.size

/-! ## Registers -/

/-- R101, R102, R103: a register holds what is written to it and no write reaches another; the pairs are the
concatenations high:low, and writing a pair writes both. F has Z, N, H, C in bits 7 to 4; bits 3:0 read as 0
whatever is written. -/
def Obligations.RegisterFile : Prop :=
  (∀ s : State,
    (∀ r q v, (s.setReg r v).reg q = if q = r then v else s.reg q) ∧
    s.af.toNat = s.a.toNat * 256 + s.f.toByte.toNat ∧
    s.bc.toNat = s.b.toNat * 256 + s.c.toNat ∧
    s.de.toNat = s.d.toNat * 256 + s.e.toNat ∧
    s.hl.toNat = s.h.toNat * 256 + s.l.toNat ∧
    (∀ p v, (s.setPair p v).pair p = v) ∧
    (∀ p v, p ≠ .af → (s.setStackPair p v).stackPair p = v) ∧
    ∀ v, (s.setStackPair .af v).a.toNat = v.toNat / 256 ∧
      (s.setStackPair .af v).f.toByte.toNat = v.toNat % 256 / 16 * 16) ∧
  (∀ f : Flags, f.toByte.getLsbD 7 = f.z ∧ f.toByte.getLsbD 6 = f.n ∧ f.toByte.getLsbD 5 = f.h ∧
    f.toByte.getLsbD 4 = f.c ∧ f.toByte &&& 0x0F = 0) ∧
  ∀ v : Byte, (Flags.ofByte v).toByte = v &&& 0xF0

/-! ## The address decoder -/

/-- R201, R202, R204: the ranges of the address map, for reads and for writes. The arrays are keyed by
their CPU addresses. -/
def Obligations.AddressDecoderRoutes : Prop :=
  ∀ (s : State) (x : Word) (v : Byte),
    (x.toNat < 0x8000 → s.read x = some (s.readROM x) ∧ s.write x v = s.writeROM x v) ∧
    (0x8000 ≤ x.toNat → x.toNat < 0xA000 →
      s.read x = s.mem.read x.toNat ∧ s.write x v = { s with mem := s.mem.write x.toNat v }) ∧
    (0xA000 ≤ x.toNat → x.toNat < 0xC000 →
      s.read x = s.readRAM x ∧ s.write x v = s.writeRAM x v) ∧
    (0xC000 ≤ x.toNat → x.toNat < 0xE000 →
      s.read x = s.mem.read x.toNat ∧ s.write x v = { s with mem := s.mem.write x.toNat v }) ∧
    (0xE000 ≤ x.toNat → x.toNat < 0xFE00 →
      s.read x = s.mem.read (x.toNat - 0x2000) ∧
        s.write x v = { s with mem := s.mem.write (x.toNat - 0x2000) v }) ∧
    (0xFE00 ≤ x.toNat → x.toNat < 0xFEA0 →
      s.read x = s.mem.read x.toNat ∧ s.write x v = { s with mem := s.mem.write x.toNat v }) ∧
    (0xFEA0 ≤ x.toNat → x.toNat < 0xFF00 → s.read x = some 0xFF ∧ s.write x v = s) ∧
    (x.toNat = 0xFF0F → s.read x = some s.ifReg ∧ s.write x v = { s with ifReg := v }) ∧
    (0xFF00 ≤ x.toNat → x.toNat < 0xFF80 → x.toNat ≠ 0xFF0F →
      s.read x = s.io[x.toNat - 0xFF00]? ∧
        ∃ io, s.write x v = { s with io := io } ∧
          ∀ k, io[k]? = if k = x.toNat - 0xFF00 then some v else s.io[k]?) ∧
    (0xFF80 ≤ x.toNat → x.toNat < 0xFFFF →
      s.read x = s.mem.read x.toNat ∧ s.write x v = { s with mem := s.mem.write x.toNat v }) ∧
    (x.toNat = 0xFFFF → s.read x = some s.ieReg ∧ s.write x v = { s with ieReg := v })

/-- R203: the echo region reads and writes the byte 0x2000 below, in both directions; 0xDE00 to 0xDFFF has
no alias, and no address from 0xFE00 on is echo. -/
def Obligations.EchoAliasesWorkRam : Prop :=
  ∀ (s : State) (x : Word) (v : Byte),
    (0xE000 ≤ x.toNat → x.toNat < 0xFE00 →
      0xC000 ≤ (x - 0x2000).toNat ∧ (x - 0x2000).toNat < 0xDE00 ∧
      s.read x = s.read (x - 0x2000) ∧ s.write x v = s.write (x - 0x2000) v ∧
      (s.write x v).read (x - 0x2000) = some v ∧ (s.write (x - 0x2000) v).read x = some v) ∧
    (0xDE00 ≤ x.toNat → x.toNat < 0xE000 →
      ∀ y, y ≠ x → (s.write y v).read x = s.read x) ∧
    (0xFE00 ≤ x.toNat →
      ∀ y, 0xC000 ≤ y.toNat → y.toNat < 0xE000 → (s.write x v).read y = s.read y)

/-- A write is read back at the same address wherever it stores, and changes nothing where the address
holds no RAM: the unmapped range, and a cartridge RAM window that reaches no byte (R202, R204, R211, R228).
In a state with no cartridge the spec gives no read or write of that window: that the window then reads 0xFF
and ignores writes is the model's (log entry 10), and no step observes it. -/
def Obligations.ReadAfterWriteGivesTheByte : Prop :=
  ∀ (s : State) (x : Word) (v : Byte),
    (storesAt s x → (s.write x v).read x = some v) ∧
    (¬storesAt s x → 0x8000 ≤ x.toNat → s.write x v = s ∧ s.read x = some 0xFF)

/-- A write changes no other byte: only the byte its address names, and below 0x8000, where it selects
banks, only what the banked windows show (R202, R211, R220 to R228). In a state with no cartridge, what the
cartridge windows read and that writes to them do nothing is the model's (log entry 10). -/
def Obligations.WriteChangesNoOtherByte : Prop :=
  ∀ (s : State) (x y : Word) (v : Byte), home y ≠ home x → (x.toNat < 0x8000 → ¬banked y) →
    (s.write x v).read y = s.read y

/-! ## The cartridge -/

/-- R220 to R223: with MBC1 a write below 0x8000 sets one banking register and nothing else. -/
def Obligations.BankingRegisterWrites : Prop :=
  ∀ (s : State) (c : Cartridge) (x : Word) (v : Byte), s.cart = some c → c.scheme = .mbc1 →
    (x.toNat < 0x2000 →
      s.write x v = { s with bank := { s.bank with ramEnable := decide (v.toNat % 16 = 0xA) } }) ∧
    (0x2000 ≤ x.toNat → x.toNat < 0x4000 →
      ∃ b, s.write x v = { s with bank := { s.bank with romBankLow := b } } ∧
        b.toNat = if v.toNat % 32 = 0 then 1 else v.toNat % 32) ∧
    (0x4000 ≤ x.toNat → x.toNat < 0x6000 →
      ∃ b, s.write x v = { s with bank := { s.bank with bankHigh := b } } ∧
        b.toNat = v.toNat % 4) ∧
    (0x6000 ≤ x.toNat → x.toNat < 0x8000 →
      s.write x v = { s with bank := { s.bank with
        bankMode := if v.toNat % 2 = 0 then .romBanking else .ramBanking } })

/-- R211: with no controller ROM reads at its own offset, and writes below 0x8000 and both directions of
the cartridge RAM window do nothing. -/
def Obligations.NoControllerCartridge : Prop :=
  ∀ (s : State) (c : Cartridge) (x : Word) (v : Byte), s.cart = some c → c.scheme = .none →
    (x.toNat < 0x8000 → s.read x = some (c.rom.read x.toNat) ∧ s.write x v = s) ∧
    (0xA000 ≤ x.toNat → x.toNat < 0xC000 → s.read x = some 0xFF ∧ s.write x v = s)

/-- R224 to R228: what the ROM windows and the cartridge RAM window reach with MBC1. The ROM bank is 1 to 127
whenever the low selector is not zero; an offset past an image reads 0xFF, and RAM that is absent, disabled or
past its end reads 0xFF and ignores writes. -/
def Obligations.Mbc1Windows : Prop :=
  ∀ (s : State) (c : Cartridge) (x : Word) (v : Byte), s.cart = some c → c.scheme = .mbc1 →
    let romBank := match s.bank.bankMode with
      | .romBanking => s.bank.bankHigh.toNat * 32 + s.bank.romBankLow.toNat
      | .ramBanking => s.bank.romBankLow.toNat
    let ramBank := match s.bank.bankMode with
      | .romBanking => 0
      | .ramBanking => s.bank.bankHigh.toNat
    (s.bank.romBankLow ≠ 0 → 1 ≤ romBank ∧ romBank ≤ 127) ∧
    (x.toNat < 0x4000 → s.read x = some (c.rom.read x.toNat)) ∧
    (0x4000 ≤ x.toNat → x.toNat < 0x8000 →
      let off := romBank * 0x4000 + (x.toNat - 0x4000)
      s.read x = some (if off < c.rom.size then c.rom.read off else 0xFF)) ∧
    (0xA000 ≤ x.toNat → x.toNat < 0xC000 →
      let off := ramBank * 0x2000 + (x.toNat - 0xA000)
      (s.bank.ramEnable = false ∨ c.ram = none → s.read x = some 0xFF ∧ s.write x v = s) ∧
      ∀ r, s.bank.ramEnable = true → c.ram = some r →
        (r.size ≤ off → s.read x = some 0xFF ∧ s.write x v = s) ∧
        (off < r.size → s.read x = r.cells.read off ∧
          s.write x v =
            { s with cart := some { c with ram := some { r with cells := r.cells.write off v } } }))

/-- R240 to R244: the checks of `loadImage` in their order, and what each answer leaves. A failure leaves
no cartridge, so nothing runs (R903); a success installs the cartridge and resets. The model's own: the name of
the refusal of `cart_ram_init`, its place after the other checks, and that a failed load keeps every field but
the cartridge (log entry 16); that a load keeps the field `halt_bug` (log entry 7); the field `report` that
holds a step's answer (log entry 12). -/
def Obligations.LoadImageChecks : Prop :=
  ∀ (s : State) (bytes : List Byte) (ramInit : Option (List Byte)),
    let type := (bytes.getD 0x0147 0).toNat
    let code := (bytes.getD 0x0149 0).toNat
    let size := if code = 2 then 0x2000 else if code = 3 then 0x8000 else 0
    let answer := (s.loadImage bytes ramInit).1
    let t := (s.loadImage bytes ramInit).2
    (bytes.length < 0x8000 → answer = .error .undersized) ∧
    (0x8000 ≤ bytes.length → 3 < type → answer = .error .unsupportedScheme) ∧
    (0x8000 ≤ bytes.length → type ≤ 3 → code ≠ 0 → code ≠ 2 → code ≠ 3 →
      answer = .error .unsupportedRamSize) ∧
    (0x8000 ≤ bytes.length → type ≤ 3 → (code = 0 ∨ code = 2 ∨ code = 3) →
      (∀ init, ramInit = some init → init.length ≠ size → answer = .error .ramInitLength) ∧
      ((∀ init, ramInit = some init → init.length = size) → answer = .ok ())) ∧
    (∀ r, answer = .error r → t = { s with cart := none } ∧ step t = .next { t with report := .noStep }) ∧
    (answer = .ok () →
      resetValues t ∧ t.haltBug = s.haltBug ∧
      ∃ c, t.cart = some c ∧ c.rom = RomImage.ofBytes bytes ∧ (c.scheme = .none ↔ type = 0) ∧
        c.ram = if size = 0 then none
          else some { size := size, cells := cellsFrom 0 (ramInit.getD []) })

/-- R211, R226, R227, R244: right after a successful load the ROM windows read the image, bank 1 in the
upper one; the bytes of an enabled MBC1 RAM are those of `cart_ram_init`, and without it unwritten. How the
image and `cart_ram_init` are held, and that an unwritten byte reads as no value, is the model's (log entries
8, 9 and 22). -/
def Obligations.LoadedImageIsRead : Prop :=
  ∀ (s : State) (bytes : List Byte) (ramInit : Option (List Byte)),
    (s.loadImage bytes ramInit).1 = .ok () →
    let t := (s.loadImage bytes ramInit).2
    (∀ x : Word, x.toNat < 0x8000 → t.read x = bytes[x.toNat]?) ∧
    (bytes.getD 0x0147 0 ≠ 0 → bytes.getD 0x0149 0 ≠ 0 → ∀ x : Word, 0xA000 ≤ x.toNat → x.toNat < 0xC000 →
      (t.write 0x0000 0x0A).read x = (ramInit.getD [])[x.toNat - 0xA000]?)

/-! ## Loads -/

/-- R401, R402: `LD r,r'` (49 instructions, `ld_B_B` to `ld_A_A`) and `LD r,n` (7) copy a byte into a
register and do nothing else. -/
def Obligations.LoadRegister : Prop :=
  (∀ dst r, encode (Instr.ldReg dst r) = [0b01#2 ++ regCode dst ++ regCode r]) ∧
  (∀ dst n, encode (Instr.ldImm dst n) = [0b00#2 ++ regCode dst ++ 0b110#3, n]) ∧
  ∀ (s : State) dst,
    (∀ r, exec (Instr.ldReg dst r) s = .next (s.setReg dst (s.reg r))) ∧
    (∀ r, exec (Instr.ldReg r r) s = .next s) ∧
    ∀ n, exec (Instr.ldImm dst n) s = .next (s.setReg dst n)

/-- R403, R404, R405: `LD r,(HL)`, `LD (HL),r` (7 each) and `LD (HL),n`.
What the stop at an unwritten byte (R206, R841) leaves is the model's: log entries
3, 4 and 11, see `stoppedAt`. -/
def Obligations.LoadAndStoreAtHL : Prop :=
  (∀ dst, encode (Instr.ldFromHL dst) = [0b01#2 ++ regCode dst ++ 0b110#3]) ∧
  (∀ r, encode (Instr.ldToHL r) = [0b01#2 ++ 0b110#3 ++ regCode r]) ∧
  (∀ n, encode (.ld_atHL_n n) = [0b00110110, n]) ∧
  ∀ s : State,
    (∀ dst v, s.read s.hl = some v → exec (Instr.ldFromHL dst) s = .next (s.setReg dst v)) ∧
    (∀ dst, s.read s.hl = none → exec (Instr.ldFromHL dst) s = .next (stoppedAt s s.hl)) ∧
    (∀ r, exec (Instr.ldToHL r) s = .next (s.write s.hl (s.reg r))) ∧
    ∀ n, exec (.ld_atHL_n n) s = .next (s.write s.hl n)

/-- R406 to R415: the loads of A from and the stores of A to an address in a pair, an immediate or the high
page. What the stop at an unwritten byte (R206, R841) leaves is the model's: log entries
3, 4 and 11, see `stoppedAt`. -/
def Obligations.LoadAndStoreAccumulator : Prop :=
  encode .ld_A_atBC = [0b00001010] ∧ encode .ld_A_atDE = [0b00011010] ∧
  encode .ld_atBC_A = [0b00000010] ∧ encode .ld_atDE_A = [0b00010010] ∧
  (∀ nn, encode (.ld_A_atNn nn) = [0b11111010, lowByte nn, highByte nn] ∧
    encode (.ld_atNn_A nn) = [0b11101010, lowByte nn, highByte nn]) ∧
  (∀ n, encode (.ldh_A_atN n) = [0b11110000, n] ∧ encode (.ldh_atN_A n) = [0b11100000, n]) ∧
  encode .ld_A_atC = [0b11110010] ∧ encode .ld_atC_A = [0b11100010] ∧
  ∀ (s : State) (nn : Word) (n : Byte),
    ∀ p ∈ [(Instr.ld_A_atBC, Instr.ld_atBC_A, s.bc), (.ld_A_atDE, .ld_atDE_A, s.de),
        (.ld_A_atNn nn, .ld_atNn_A nn, nn), (.ldh_A_atN n, .ldh_atN_A n, 0xFF00 + n.setWidth 16),
        (.ld_A_atC, .ld_atC_A, 0xFF00 + s.c.setWidth 16)],
      (∀ v, s.read p.2.2 = some v → exec p.1 s = .next { s with a := v }) ∧
      (s.read p.2.2 = none → exec p.1 s = .next (stoppedAt s p.2.2)) ∧
      exec p.2.1 s = .next (s.write p.2.2 s.a)

/-- R416 to R419: the loads and stores of A that step HL, up or down, modulo 2^16.
What the stop at an unwritten byte (R206, R841) leaves is the model's: log entries
3, 4 and 11, see `stoppedAt`. HL and A are kept there. -/
def Obligations.LoadAndStoreSteppingHL : Prop :=
  encode .ld_atHLinc_A = [0b00100010] ∧ encode .ld_A_atHLinc = [0b00101010] ∧
  encode .ld_atHLdec_A = [0b00110010] ∧ encode .ld_A_atHLdec = [0b00111010] ∧
  ∀ s : State,
    ∀ p ∈ [(Instr.ld_atHLinc_A, Instr.ld_A_atHLinc, s.hl + 1),
        (.ld_atHLdec_A, .ld_A_atHLdec, s.hl - 1)],
      (∃ t, exec p.1 s = .next t ∧ t.hl = p.2.2 ∧
        t = { s.write s.hl s.a with h := highByte p.2.2, l := lowByte p.2.2 }) ∧
      (∀ v, s.read s.hl = some v → ∃ t, exec p.2.1 s = .next t ∧ t.hl = p.2.2 ∧
        t = { s with a := v, h := highByte p.2.2, l := lowByte p.2.2 }) ∧
      (s.read s.hl = none → exec p.2.1 s = .next (stoppedAt s s.hl))

/-- R450, R451, R452: the 16-bit loads; `LD (nn),SP` writes the low byte first, and the second address
wraps modulo 2^16. -/
def Obligations.LoadPairs : Prop :=
  (∀ p nn, encode (Instr.ldPair p nn) =
    [0b00#2 ++ pairCode p ++ 0b0001#4, lowByte nn, highByte nn]) ∧
  (∀ nn, encode (.ld_atNn_SP nn) = [0b00001000, lowByte nn, highByte nn]) ∧
  encode .ld_SP_HL = [0b11111001] ∧
  ∀ (s : State) (nn : Word),
    (∀ p, exec (Instr.ldPair p nn) s = .next (s.setPair p nn)) ∧
    exec (.ld_atNn_SP nn) s =
      .next ((s.write nn (lowByte s.sp)).write (nn + 1) (highByte s.sp)) ∧
    exec .ld_SP_HL s = .next { s with sp := s.hl }

/-! ## The stack -/

/-- R453: `PUSH rr` writes the high byte at SP - 1, then the low byte at SP - 2, modulo 2^16. -/
def Obligations.PushStoresThePair : Prop :=
  (∀ p, encode (Instr.push p) = [0b11#2 ++ stackCode p ++ 0b0101#4]) ∧
  ∀ (s : State) p, exec (Instr.push p) s = .next (pushed s (s.stackPair p))

/-- R454, R455: `POP rr` reads the low byte at SP, then the high byte at SP + 1. `POP AF` takes the flags
from bits 7 to 4 of the low byte. An unwritten byte stops the instruction where it is read (R206, R841). What
that stop leaves, SP moved by 1 where the high byte is unwritten, is the model's: log entries 3, 4 and 11. -/
def Obligations.PopLoadsThePair : Prop :=
  (∀ p, encode (Instr.pop p) = [0b11#2 ++ stackCode p ++ 0b0001#4]) ∧
  ∀ s : State,
    (∀ lo hi, s.read s.sp = some lo → s.read (s.sp + 1) = some hi →
      exec .pop_BC s = .next { s with b := hi, c := lo, sp := s.sp + 2 } ∧
      exec .pop_DE s = .next { s with d := hi, e := lo, sp := s.sp + 2 } ∧
      exec .pop_HL s = .next { s with h := hi, l := lo, sp := s.sp + 2 } ∧
      exec .pop_AF s = .next { s with
        a := hi
        f := { z := lo.getLsbD 7, n := lo.getLsbD 6, h := lo.getLsbD 5, c := lo.getLsbD 4 }
        sp := s.sp + 2 }) ∧
    ∀ p,
      (s.read s.sp = none → exec (Instr.pop p) s = .next (stoppedAt s s.sp)) ∧
      (s.read s.sp ≠ none → s.read (s.sp + 1) = none →
        exec (Instr.pop p) s = .next (stoppedAt { s with sp := s.sp + 1 } (s.sp + 1)))

/-- A pair pushed and popped into any pair arrives whole, and into AF without its bits 3:0; SP comes back.
It holds wherever both stack bytes are stored, across regions and around the end of the address space
(R105, R453, R454, R455). -/
def Obligations.PopUndoesPush : Prop :=
  ∀ (s : State) (p q : StackPair), storesAt s (s.sp - 1) → storesAt s (s.sp - 2) →
    ∃ t u, exec (Instr.push p) s = .next t ∧ exec (Instr.pop q) t = .next u ∧ u.sp = s.sp ∧
      u.stackPair q = (if q = .af then s.stackPair p &&& 0xFFF0 else s.stackPair p) ∧
      (p = q → u = { t with sp := s.sp })

/-! ## 8-bit arithmetic and logic -/

/-- R500, R510 to R515: ADD and ADC on a register, the byte at HL and an immediate (7 + 1 + 1 instructions
each). What the stop at an unwritten byte (R206, R841) leaves is the model's: log entries
3, 4 and 11, see `stoppedAt`. -/
def Obligations.AddWithAndWithoutCarry : Prop :=
  aluForms .add (fun v => adds 0 v) ∧ aluForms .adc (fun v s t => adds (carry s) v s t)

/-- R501, R516 to R521, R531 to R533: SUB, SBC and CP on a register, the byte at HL and an immediate; CP
leaves A. What the stop at an unwritten byte (R206, R841) leaves is the model's: log entries
3, 4 and 11, see `stoppedAt`. -/
def Obligations.SubtractAndCompare : Prop :=
  aluForms .sub (fun v => subtracts 0 v) ∧ aluForms .sbc (fun v s t => subtracts (carry s) v s t) ∧
  aluForms .cp compares

/-- R502 to R504, R522 to R530: AND, OR and XOR on a register, the byte at HL and an immediate.
What the stop at an unwritten byte (R206, R841) leaves is the model's: log entries
3, 4 and 11, see `stoppedAt`. -/
def Obligations.BitwiseLogic : Prop :=
  aluForms .and (fun v s => logicResult (s.a &&& v) true s) ∧
  aluForms .or (fun v s => logicResult (s.a ||| v) false s) ∧
  aluForms .xor (fun v s => logicResult (s.a ^^^ v) false s)

/-- R534 to R537: INC and DEC of a register and of the byte at HL; the carry flag is kept, and the memory
forms write back where they read. What the stop at an unwritten byte (R206, R841) leaves is the model's: log
entries 3, 4 and 11, see `stoppedAt`. -/
def Obligations.IncrementAndDecrement : Prop :=
  (∀ r, encode (Instr.incReg r) = [0b00#2 ++ regCode r ++ 0b100#3]) ∧
  (∀ r, encode (Instr.decReg r) = [0b00#2 ++ regCode r ++ 0b101#3]) ∧
  encode .inc_atHL = [0b00110100] ∧ encode .dec_atHL = [0b00110101] ∧
  ∀ s : State,
    (∀ r, ∃ v f, exec (Instr.incReg r) s = .next { s.setReg r v with f := f } ∧
      increments (s.reg r) v s.f f) ∧
    (∀ r, ∃ v f, exec (Instr.decReg r) s = .next { s.setReg r v with f := f } ∧
      decrements (s.reg r) v s.f f) ∧
    (∀ m, s.read s.hl = some m →
      (∃ v f, exec .inc_atHL s = .next { s.write s.hl v with f := f } ∧ increments m v s.f f) ∧
      ∃ v f, exec .dec_atHL s = .next { s.write s.hl v with f := f } ∧ decrements m v s.f f) ∧
    (s.read s.hl = none →
      exec .inc_atHL s = .next (stoppedAt s s.hl) ∧ exec .dec_atHL s = .next (stoppedAt s s.hl))

/-- R538: DAA, with the corrections in the rule's order on the unwrapped value. -/
def Obligations.DecimalAdjust : Prop :=
  encode .daa = [0b00100111] ∧
  ∀ s : State, ∃ r z, exec .daa s =
      .next { s with a := r, f := { z := z, n := s.f.n, h := false, c := (daaValue s.a.toNat s.f).2 } } ∧
    (r.toNat : Int) = (daaValue s.a.toNat s.f).1 % 256 ∧ (z = true ↔ r.toNat = 0)

/-- R539 to R541: CPL, SCF, CCF. -/
def Obligations.ComplementAndCarry : Prop :=
  encode .cpl = [0b00101111] ∧ encode .scf = [0b00110111] ∧ encode .ccf = [0b00111111] ∧
  ∀ s : State,
    (∃ r, exec .cpl s = .next { s with a := r, f := { s.f with n := true, h := true } } ∧
      r.toNat + s.a.toNat = 255) ∧
    exec .scf s = .next { s with f := { s.f with n := false, h := false, c := true } } ∧
    exec .ccf s = .next { s with f := { s.f with n := false, h := false, c := !s.f.c } }

/-! ## 16-bit arithmetic -/

/-- R550, R551, R552, R555, R556: ADD HL,rr keeps Z and takes H from bit 11; ADD SP,e and LD HL,SP+e clear Z
and take the carries of adding the unsigned byte to the low byte of SP. -/
def Obligations.SixteenBitAddition : Prop :=
  (∀ p, encode (Instr.addHL p) = [0b00#2 ++ pairCode p ++ 0b1001#4]) ∧
  (∀ e, encode (.add_SP_e e) = [0b11101000, e]) ∧ (∀ e, encode (.ld_HL_SPe e) = [0b11111000, e]) ∧
  ∀ s : State,
    (∀ p, ∃ r f, exec (Instr.addHL p) s =
        .next { s with h := highByte r, l := lowByte r, f := f } ∧
      r.toNat = (s.hl.toNat + (s.pair p).toNat) % 65536 ∧ f.z = s.f.z ∧ f.n = false ∧
      (f.h = true ↔ s.hl.toNat % 4096 + (s.pair p).toNat % 4096 > 4095) ∧
      (f.c = true ↔ s.hl.toNat + (s.pair p).toNat > 65535)) ∧
    ∀ e, ∃ r f, displaces s.sp e r f ∧
      exec (.add_SP_e e) s = .next { s with sp := r, f := f } ∧
      exec (.ld_HL_SPe e) s = .next { s with h := highByte r, l := lowByte r, f := f }

/-- R553, R554: INC rr and DEC rr, modulo 2^16, with no flag. -/
def Obligations.IncrementAndDecrementPairs : Prop :=
  (∀ p, encode (Instr.incPair p) = [0b00#2 ++ pairCode p ++ 0b0011#4]) ∧
  (∀ p, encode (Instr.decPair p) = [0b00#2 ++ pairCode p ++ 0b1011#4]) ∧
  ∀ (s : State) p,
    (∃ v, exec (Instr.incPair p) s = .next (s.setPair p v) ∧
      v.toNat = ((s.pair p).toNat + 1) % 65536) ∧
    ∃ v, exec (Instr.decPair p) s = .next (s.setPair p v) ∧
      v.toNat = ((s.pair p).toNat + 65535) % 65536

/-! ## Rotates, shifts and bits -/

/-- R601 to R604: the accumulator rotates; Z is always cleared. -/
def Obligations.AccumulatorRotates : Prop :=
  encode .rlca = [0b00000111] ∧ encode .rrca = [0b00001111] ∧
  encode .rla = [0b00010111] ∧ encode .rra = [0b00011111] ∧
  ∀ (s : State), ∀ p ∈ [(Instr.rlca, ShiftOp.rlc), (.rrca, .rrc), (.rla, .rl), (.rra, .rr)],
    exec p.1 s = .next { s with
      a := shifted p.2 s.a s.f.c
      f := { z := false, n := false, h := false, c := shiftedOut p.2 s.a } }

/-- R600, R605, R607, R609, R611, R613, R615, R617, R619: the eight operations of the shift unit on each
of the seven registers (56 instructions, `rlc_B` to `srl_A`). -/
def Obligations.ShiftRegisters : Prop :=
  ∀ op r, encode (Instr.shiftReg op r) = [0xCB, 0b00#2 ++ shiftCode op ++ regCode r] ∧
    ∀ s : State, exec (Instr.shiftReg op r) s =
      .next { s.setReg r (shifted op (s.reg r) s.f.c) with f := shiftWrites op (s.reg r) s.f.c }

/-- R600, R606, R608, R610, R612, R614, R616, R618, R620: the eight operations on the byte at HL.
What the stop at an unwritten byte (R206, R841) leaves is the model's: log entries
3, 4 and 11, see `stoppedAt`. -/
def Obligations.ShiftMemory : Prop :=
  ∀ op, encode (Instr.shiftHL op) = [0xCB, 0b00#2 ++ shiftCode op ++ 0b110#3] ∧
    ∀ s : State,
      (∀ v, s.read s.hl = some v → exec (Instr.shiftHL op) s =
        .next { s.write s.hl (shifted op v s.f.c) with f := shiftWrites op v s.f.c }) ∧
      (s.read s.hl = none → exec (Instr.shiftHL op) s = .next (stoppedAt s s.hl))

/-- R650, R651: BIT on a register (56 instructions) and on the byte at HL (8): Z is the inverted bit, C is
kept, nothing else is written. What the stop at an unwritten byte (R206, R841) leaves is the model's: log entries
3, 4 and 11, see `stoppedAt`. -/
def Obligations.BitTest : Prop :=
  ∀ b,
    (∀ r, encode (Instr.bitReg b r) = [0xCB, 0b01#2 ++ bitCode b ++ regCode r]) ∧
    encode (Instr.bitHL b) = [0xCB, 0b01#2 ++ bitCode b ++ 0b110#3] ∧
    ∀ s : State,
      (∀ r, exec (Instr.bitReg b r) s = .next { s with
        f := { z := !(s.reg r).getLsbD (bitNumber b), n := false, h := true, c := s.f.c } }) ∧
      (∀ v, s.read s.hl = some v → exec (Instr.bitHL b) s = .next { s with
        f := { z := !v.getLsbD (bitNumber b), n := false, h := true, c := s.f.c } }) ∧
      (s.read s.hl = none → exec (Instr.bitHL b) s = .next (stoppedAt s s.hl))

/-- R652 to R655: RES and SET on a register (56 instructions each) and on the byte at HL (8 each) change
the named bit and no other; the memory forms write even if the bit had its value.
What the stop at an unwritten byte (R206, R841) leaves is the model's: log entries
3, 4 and 11, see `stoppedAt`. -/
def Obligations.BitResetAndSet : Prop :=
  ∀ b,
    (∀ r, encode (Instr.resReg b r) = [0xCB, 0b10#2 ++ bitCode b ++ regCode r]) ∧
    (∀ r, encode (Instr.setReg b r) = [0xCB, 0b11#2 ++ bitCode b ++ regCode r]) ∧
    encode (Instr.resHL b) = [0xCB, 0b10#2 ++ bitCode b ++ 0b110#3] ∧
    encode (Instr.setHL b) = [0xCB, 0b11#2 ++ bitCode b ++ 0b110#3] ∧
    ∀ v : Byte, ∃ v0 v1 : Byte,
      (∀ j, j < 8 → v0.getLsbD j = if j = bitNumber b then false else v.getLsbD j) ∧
      (∀ j, j < 8 → v1.getLsbD j = if j = bitNumber b then true else v.getLsbD j) ∧
      ∀ s : State,
        (∀ r, s.reg r = v → exec (Instr.resReg b r) s = .next (s.setReg r v0) ∧
          exec (Instr.setReg b r) s = .next (s.setReg r v1)) ∧
        (s.read s.hl = some v → exec (Instr.resHL b) s = .next (s.write s.hl v0) ∧
          exec (Instr.setHL b) s = .next (s.write s.hl v1)) ∧
        (s.read s.hl = none → exec (Instr.resHL b) s = .next (stoppedAt s s.hl) ∧
          exec (Instr.setHL b) s = .next (stoppedAt s s.hl))

/-! ## Control flow -/

/-- R700 to R705: the jumps. PC stands past the instruction when its meaning runs (R106); a condition that
fails changes nothing. -/
def Obligations.Jumps : Prop :=
  (∀ nn, encode (.jp_nn nn) = [0b11000011, lowByte nn, highByte nn]) ∧
  (∀ cc nn, encode (Instr.jpCc cc nn) =
    [0b110#3 ++ condCode cc ++ 0b010#3, lowByte nn, highByte nn]) ∧
  encode .jp_HL = [0b11101001] ∧ (∀ e, encode (.jr_e e) = [0b00011000, e]) ∧
  (∀ cc e, encode (Instr.jrCc cc e) = [0b001#3 ++ condCode cc ++ 0b000#3, e]) ∧
  ∀ (s : State) (nn : Word) (e : Byte),
    exec (.jp_nn nn) s = .next { s with pc := nn } ∧
    exec .jp_HL s = .next { s with pc := s.hl } ∧
    ∃ target : Word, (target.toNat : Int) = ((s.pc.toNat : Int) + e.toInt) % 65536 ∧
      exec (.jr_e e) s = .next { s with pc := target } ∧
      ∀ cc,
        (holds s.f cc → exec (Instr.jpCc cc nn) s = .next { s with pc := nn } ∧
          exec (Instr.jrCc cc e) s = .next { s with pc := target }) ∧
        (¬holds s.f cc → exec (Instr.jpCc cc nn) s = .next s ∧
          exec (Instr.jrCc cc e) s = .next s)

/-- R706, R707, R711: the calls and the restarts push PC, the address past the instruction, and jump; a
call not taken touches neither SP nor memory. -/
def Obligations.CallsAndRestarts : Prop :=
  (∀ nn, encode (.call_nn nn) = [0b11001101, lowByte nn, highByte nn]) ∧
  (∀ cc nn, encode (Instr.callCc cc nn) =
    [0b110#3 ++ condCode cc ++ 0b100#3, lowByte nn, highByte nn]) ∧
  (∀ b, encode (Instr.rst b) = [0b11#2 ++ bitCode b ++ 0b111#3]) ∧
  ∀ (s : State) (nn : Word),
    exec (.call_nn nn) s = .next { pushed s s.pc with pc := nn } ∧
    (∀ cc, (holds s.f cc → exec (Instr.callCc cc nn) s = .next { pushed s s.pc with pc := nn }) ∧
      (¬holds s.f cc → exec (Instr.callCc cc nn) s = .next s)) ∧
    ∀ b, exec (Instr.rst b) s = .next { pushed s s.pc with pc := BitVec.ofNat 16 (8 * bitNumber b) }

/-- R708, R709, R710: the returns pop PC; RETI sets IME at once and clears the delayed enable; a return not
taken reads no memory. An unwritten stack byte stops the instruction where it is read (R206, R841). What that
stop leaves, SP moved by 1 where the high byte is unwritten, is the model's: log entries 3, 4 and 11. -/
def Obligations.Returns : Prop :=
  encode .ret = [0b11001001] ∧ encode .reti = [0b11011001] ∧
  (∀ cc, encode (Instr.retCc cc) = [0b110#3 ++ condCode cc ++ 0b000#3]) ∧
  ∀ s : State,
    (∀ lo hi, s.read s.sp = some lo → s.read (s.sp + 1) = some hi →
      exec .ret s = .next { s with pc := hi ++ lo, sp := s.sp + 2 } ∧
      exec .reti s = .next { s with pc := hi ++ lo, sp := s.sp + 2, ime := true, eiDelay := 0 } ∧
      ∀ cc, holds s.f cc → exec (Instr.retCc cc) s = .next { s with pc := hi ++ lo, sp := s.sp + 2 }) ∧
    (∀ cc, ¬holds s.f cc → exec (Instr.retCc cc) s = .next s) ∧
    ∀ i, (i = .ret ∨ i = .reti ∨ ∃ cc, holds s.f cc ∧ i = Instr.retCc cc) →
      (s.read s.sp = none → exec i s = .next (stoppedAt s s.sp)) ∧
      (s.read s.sp ≠ none → s.read (s.sp + 1) = none →
        exec i s = .next (stoppedAt { s with sp := s.sp + 1 } (s.sp + 1)))

/-! ## System instructions -/

/-- R750, R752, R753, R755, R756: NOP, HALT, STOP, DI, EI. STOP ignores its second byte; HALT repeats the
next byte only with `halt_bug`, IME 0 and an enabled interrupt pending. That the parameter `halt_bug` of R8 is
a field of State is the model's (log entry 7); both of its values are covered. The fetches, and so the moves
of PC, belong to the step (`StepRunsTheDecodedInstruction`). -/
def Obligations.SystemInstructions : Prop :=
  encode .nop = [0x00] ∧ encode .halt = [0b01110110] ∧ (∀ n, encode (.stop n) = [0b00010000, n]) ∧
  encode .di = [0b11110011] ∧ encode .ei = [0b11111011] ∧
  ∀ s : State,
    exec .nop s = .next s ∧
    (∀ n, exec (.stop n) s = .next { s with run := .stopped }) ∧
    exec .di s = .next { s with ime := false, eiDelay := 0 } ∧
    exec .ei s = .next { s with eiDelay := 2 } ∧
    (s.haltBug = true ∧ s.ime = false ∧ s.ieReg &&& s.ifReg &&& 0x1F ≠ 0 →
      exec .halt s = .next { s with haltRepeat := true }) ∧
    (¬(s.haltBug = true ∧ s.ime = false ∧ s.ieReg &&& s.ifReg &&& 0x1F ≠ 0) →
      exec .halt s = .next { s with run := .halted })

/-- R330, R757, R840: the eleven illegal opcodes, and no other instruction, raise `IllegalOpcode`: the
record holds the address of the opcode byte and the byte, PC is that address, the run state is Faulted, and
nothing else changes. That address is the model's field `start` (log entries 11 and 19), and that the
exception is a next state is the model's choice (log entry 3). -/
def Obligations.IllegalOpcodes : Prop :=
  (∀ i, (∃ o ∈ illegalBytes, encode i = [o]) → ∀ s : State, ∃ o, encode i = [o] ∧
    exec i s = .next { s with pc := s.start, run := .faulted (.illegalOpcode s.start o) }) ∧
  (∀ o ∈ illegalBytes, ∃ i, encode i = [o] ∧ decode [o] = .ok (i, [])) ∧
  ∀ (i : Instr) (s t : State) p o, exec i s = .next t → s.run = .running →
    t.run = .faulted (.illegalOpcode p o) → o ∈ illegalBytes ∧ encode i = [o]

/-- R751: the escape byte runs the extended instruction of the byte after it, with PC past that byte; an
unwritten second byte stops it (R206, R841). The escape as an instruction of its own is the model's (log entry
18), and so is what that stop leaves (log entries 3, 4 and 11, see `stoppedAt`). -/
def Obligations.EscapeRunsTheExtendedInstruction : Prop :=
  encode .prefixCb = [0b11001011] ∧
  (∀ o rest, decode (0xCB :: o :: rest) = .ok (extendedPage o, rest)) ∧
  ∀ s : State,
    (∀ o, s.read s.pc = some o → ∃ t, exec .prefixCb s = .next t ∧
      exec (extendedPage o) { s with pc := s.pc + 1 } = .next t) ∧
    (s.read s.pc = none → exec .prefixCb s = .next (stoppedAt s s.pc))

/-! ## Frames -/

/-- R104: an instruction whose rule says "flags: none" leaves F unchanged, and the partial writers keep the
flags their rules keep: INC and DEC and BIT the carry, ADD HL and CPL and SCF and CCF the zero flag, CPL the
carry too, DAA the subtract flag. It holds of every next state, the model's stop at an unwritten byte
included (log entries 3 and 4). The escape alone is excluded: it takes the frame of the instruction it
runs. -/
def Obligations.FlagsFrame : Prop :=
  ∀ s t : State,
    (∀ i, i.wellFormed = true → exec i s = .next t → writesFlags i = false → t.f = s.f) ∧
    (∀ r, exec (Instr.incReg r) s = .next t ∨ exec (Instr.decReg r) s = .next t → t.f.c = s.f.c) ∧
    (exec .inc_atHL s = .next t ∨ exec .dec_atHL s = .next t ∨ exec .cpl s = .next t →
      t.f.c = s.f.c) ∧
    (∀ b r, exec (Instr.bitReg b r) s = .next t ∨ exec (Instr.bitHL b) s = .next t →
      t.f.c = s.f.c) ∧
    (∀ p, exec (Instr.addHL p) s = .next t → t.f.z = s.f.z) ∧
    (exec .cpl s = .next t ∨ exec .scf s = .next t ∨ exec .ccf s = .next t → t.f.z = s.f.z) ∧
    (exec .daa s = .next t → t.f.n = s.f.n)

/-- R105 and the destinations of R320: every 8-bit register keeps its value but those the instruction's rule
writes (its destination, A or HL where they are implicit, HL where the instruction steps it), and SP keeps
its value but under the instructions that write it. It holds of every next state, the model's stop at an
unwritten byte included (log entries 3 and 4). -/
def Obligations.RegisterFrame : Prop :=
  ∀ (i : Instr) (s t : State), i.wellFormed = true → exec i s = .next t →
    (∀ r, r ∉ writtenRegs i → t.reg r = s.reg r) ∧ (writesSP i = false → t.sp = s.sp)

/-- Every byte of memory reads as before but those at the addresses the instruction stores to; where one of
these lies below 0x8000 the banked windows may show other banks. An instruction that stores nothing leaves
the arrays, the cartridge, the banking registers, the I/O bank, IF and IE unchanged. It holds of every next
state, the model's stop at an unwritten byte and a state with no cartridge included (log entries 3, 4 and
10). -/
def Obligations.MemoryFrame : Prop :=
  ∀ (i : Instr) (s t : State), i.wellFormed = true → exec i s = .next t →
    (∀ y, (∀ x ∈ storedAddresses i s, home y ≠ home x ∧ (x.toNat < 0x8000 → ¬banked y)) →
      t.read y = s.read y) ∧
    (storedAddresses i s = [] →
      t.mem = s.mem ∧ t.cart = s.cart ∧ t.bank = s.bank ∧ t.io = s.io ∧ t.ifReg = s.ifReg ∧
      t.ieReg = s.ieReg)

/-- R805 and its neighbours: of the control state, IME is written by DI and RETI only, the delayed-enable
counter by DI, EI and RETI only, the run state by HALT, STOP and the faults only, the repeat latch by HALT
only. Nothing writes the model's fields `halt_bug`, `start` or `report` in a meaning (log entries 7, 11 and
12). A stop is a next state with the rest kept, which is the model's (log entries 3 and 4). -/
def Obligations.ControlStateFrame : Prop :=
  ∀ (i : Instr) (s t : State), i.wellFormed = true → exec i s = .next t →
    (i ≠ .di → i ≠ .reti → t.ime = s.ime) ∧
    (i ≠ .di → i ≠ .ei → i ≠ .reti → t.eiDelay = s.eiDelay) ∧
    (i ≠ .halt → (∀ n, i ≠ .stop n) → t.run = s.run ∨ ∃ r, t.run = .faulted r) ∧
    (i ≠ .halt → t.haltRepeat = s.haltRepeat) ∧
    t.haltBug = s.haltBug ∧ t.start = s.start ∧ t.report = s.report

/-! ## Steps -/

/-- R820, R823, R303, with the model's fields `start` and `report` (log entries 11 and 12): a Running step
that takes no interrupt, with the bytes of a well-formed instruction at PC, runs that instruction with PC past
its bytes, then ends as R823 says. With the repeat latch set the opcode byte does not move PC, so the immediates are read
from the opcode's own address on. That all bytes are fetched before the meaning runs, and that the cycles are
counted by the flags before it, is the model's (log entries 20 and 21). -/
def Obligations.StepRunsTheDecodedInstruction : Prop :=
  ∀ (s : State) (i : Instr) (o : Byte) (vs : List Byte) (t : State),
    s.cart ≠ none → s.run = .running → noInterrupt s →
    i.wellFormed = true → decode (o :: vs) = .ok (i, []) → s.read s.pc = some o →
    bytesAt s (if s.haltRepeat then s.pc else s.pc + 1) vs →
    exec i (fetched s (1 + vs.length)) = .next t →
    step s = .next (afterInstruction (cycles i s.f) t)

/-- R206, R841: a step whose opcode or operand byte was never written ends Faulted there: the record holds
the address and the instruction's first address, PC stays at the byte, and nothing else changes but the
repeat latch once the opcode byte is in. That the fault is a next state, the partial state it leaves, and the
fields `start` and `report` are the model's (log entries 3, 4, 11 and 12). -/
def Obligations.FetchOfAnUnwrittenByteFaults : Prop :=
  ∀ s : State, s.cart ≠ none → s.run = .running → noInterrupt s →
    (s.read s.pc = none → step s = .next { s with
      start := s.pc
      run := .faulted (.uninitializedRead s.pc s.pc)
      report := .fault (.uninitializedRead s.pc s.pc) }) ∧
    ∀ o vs x, s.read s.pc = some o → bytesAt s (if s.haltRepeat then s.pc else s.pc + 1) vs →
      1 + vs.length < instrLength o →
      x = (if s.haltRepeat then s.pc else s.pc + 1) + BitVec.ofNat 16 vs.length → s.read x = none →
      step s = .next { s with
        start := s.pc
        haltRepeat := false
        pc := x
        run := .faulted (.uninitializedRead x s.pc)
        report := .fault (.uninitializedRead x s.pc) }

/-- R810, R811, R812: with IME 1 and an enabled source pending, a Running or Halted step dispatches the
lowest one: its IF bit, IME and the delayed enable are cleared, PC is pushed, PC is the vector 0x0040 + 8k,
20 cycles are reported, and nothing else changes. The field `report` that holds the answer of R824 is the
model's (log entry 12). -/
def Obligations.InterruptDispatch : Prop :=
  ∀ (s : State) (k : Nat), s.cart ≠ none → s.run = .running ∨ s.run = .halted → s.ime = true →
    k < 5 → (s.ieReg &&& s.ifReg).getLsbD k = true →
    (∀ j, j < k → (s.ieReg &&& s.ifReg).getLsbD j = false) →
    ∃ flags : Byte,
      (∀ j, j < 8 → flags.getLsbD j = if j = k then false else s.ifReg.getLsbD j) ∧
      step s = .next { pushed { s with run := .running, ifReg := flags, ime := false, eiDelay := 0 } s.pc
        with
          pc := BitVec.ofNat 16 (0x0040 + 8 * k)
          report := .serviced (BitVec.ofNat 16 (0x0040 + 8 * k)) 20 }

/-- R820 to R822, R901, R903: the steps that do nothing. Without an image, and Faulted, a step answers
NoStep; Stopped, whatever is pending, and Halted with no enabled pending interrupt, it answers Idle. The answer
stands in the model's field `report` (log entry 12). -/
def Obligations.StepsThatDoNothing : Prop :=
  ∀ s : State,
    (s.cart = none → step s = .next { s with report := .noStep }) ∧
    (∀ r, s.run = .faulted r → step s = .next { s with report := .noStep }) ∧
    (s.cart ≠ none → s.run = .stopped → step s = .next { s with report := .idle }) ∧
    (s.cart ≠ none → s.run = .halted → s.ieReg &&& s.ifReg &&& 0x1F = 0 →
      step s = .next { s with report := .idle })

/-- R821: a Halted step with an enabled interrupt pending becomes Running and goes on in the same step,
whatever IME is: with IME 1 it dispatches, with IME 0 it is the step of the Running machine, which leaves IF
as the instruction leaves it. The answer stands in the model's field `report` (log entry 12). -/
def Obligations.HaltedWakes : Prop :=
  ∀ s : State, s.cart ≠ none → s.run = .halted → s.ieReg &&& s.ifReg &&& 0x1F ≠ 0 →
    step s = step { s with run := .running } ∧
    (s.ime = true → ∃ t k, step s = .next t ∧ k < 5 ∧ t.report = .serviced (BitVec.ofNat 16 (0x40 + 8 * k)) 20 ∧
      t.pc = BitVec.ofNat 16 (0x40 + 8 * k)) ∧
    ∀ t, step s = .next t → t.run ≠ .halted ∨ s.read s.pc = some 0x76

/-- R756, R823, R910: the one-instruction latency of EI. A step that executes EI leaves IME as it was and
the counter at 1; a step that executes any other instruction with the counter at 1, and does not fault,
leaves IME 1 and the counter 0, but for DI (IME 0) and a second EI (which re-arms the counter). That an
instruction was executed is read off the model's field `report` (log entry 12). -/
def Obligations.EnableInterruptLatency : Prop :=
  ∀ s : State, s.cart ≠ none → s.run = .running → noInterrupt s →
    (s.read s.pc = some 0xFB → ∃ t, step s = .next t ∧ t.eiDelay = 1 ∧ t.run = .running ∧
      t.ime = s.ime) ∧
    (s.eiDelay = 1 → s.ime = false → ∀ o t n, s.read s.pc = some o → step s = .next t →
      t.report = .executed n →
      (o ≠ 0xF3 → o ≠ 0xFB → t.ime = true ∧ t.eiDelay = 0) ∧
      (o = 0xF3 → t.ime = false ∧ t.eiDelay = 0) ∧ (o = 0xFB → t.ime = false ∧ t.eiDelay = 1))

/-- R805 over whole steps: a step sets IME only by executing RETI or by the countdown after EI, and clears
it only by executing DI or by a dispatch. Which of these a step was is read off the model's field `report`
(log entry 12). -/
def Obligations.MasterEnableChanges : Prop :=
  ∀ s t : State, step s = .next t →
    (s.ime = false → t.ime = true →
      s.read s.pc = some 0xD9 ∨ (s.eiDelay = 1 ∧ ∃ n, t.report = .executed n)) ∧
    (s.ime = true → t.ime = false →
      s.read s.pc = some 0xF3 ∨ ∃ v n, t.report = .serviced v n)

/-- R107, R842: the run state over whole steps. Running turns Halted only by HALT and Stopped only by STOP;
only an illegal opcode byte or an unwritten RAM byte makes it Faulted, with the record of R108 and the
address of the instruction's first byte; nothing a step does leaves Stopped or Faulted. That a fault is a
next state and the field `report` are the model's (log entries 3 and 12). -/
def Obligations.RunStateChanges : Prop :=
  ∀ s t : State, step s = .next t →
    (s.run = .stopped → t.run = .stopped) ∧ (∀ r, s.run = .faulted r → t.run = .faulted r) ∧
    (t.run = .halted → s.run = .halted ∨ s.read s.pc = some 0x76) ∧
    (t.run = .stopped → s.run = .stopped ∨ s.read s.pc = some 0x10) ∧
    ∀ r, t.run = .faulted r → s.run = .faulted r ∨
      (t.report = .fault r ∧
        ((∃ o ∈ illegalBytes, s.read s.pc = some o ∧ r = .illegalOpcode s.pc o ∧ t.pc = s.pc) ∨
          ∃ x, r = .uninitializedRead x s.pc ∧ ramAddress x))

/-- R803, R754, R11, R207: the host's and the environment's operations between steps. The refusal of a
source above 4 changes no state. That an environment write of entry 0x0F does nothing, so that it does not reach
IF, is the model's (log entry 13), and so are these operations as functions beside `step` (log entry 14). -/
def Obligations.HostRequests : Prop :=
  ∀ s : State,
    (∀ k, k ≤ 4 → ∃ v : Byte, s.requestInterrupt k = some { s with ifReg := v } ∧
      ∀ j, j < 8 → v.getLsbD j = if j = k then true else s.ifReg.getLsbD j) ∧
    (∀ k, 4 < k → s.requestInterrupt k = none) ∧
    (s.run = .stopped → s.wake = { s with run := .running }) ∧ (s.run ≠ .stopped → s.wake = s) ∧
    ∀ (k : Fin 128) v, s.environmentWrite k v = if k = 0x0F then s else { s with io := s.io.set k v }

/-! ## Encoding -/

/-- Decoding the bytes of a well-formed instruction gives it back with every operand at every value, and
leaves the bytes after it alone. That the escape byte alone is an instruction, and not a well-formed one, is the
model's (log entry 18). -/
def Obligations.DecodeUndoesEncode : Prop :=
  ∀ (i : Instr) (rest : List Byte), i.wellFormed = true → decode (encode i ++ rest) = .ok (i, rest)

/-- The other direction: what the decoder reads is the encoding of the instruction it answers, followed by
the rest, so no two encodings are one instruction; and it answers for every byte list that is long
enough (R300, R316, R330). The escape byte alone, answered where no byte follows it, is the model's (log entry
18). -/
def Obligations.DecodedBytesAreTheEncoding : Prop :=
  (∀ (bytes rest : List Byte) (i : Instr), decode bytes = .ok (i, rest) → bytes = encode i ++ rest) ∧
  ∀ (o : Byte) (vs : List Byte), instrLength o ≤ 1 + vs.length →
    ∃ i rest, decode (o :: vs) = .ok (i, rest) ∧ i.wellFormed = true ∧
      (encode i).length = instrLength o

/-- R303: the length of an instruction from its first byte; and a few words of the grids decode to the
instructions they stand for. -/
def Obligations.LengthsAndDecodedWords : Prop :=
  (∀ o : Byte, instrLength o =
    if o.toNat ∈ [0xCB, 0x06, 0x0E, 0x10, 0x16, 0x18, 0x1E, 0x20, 0x26, 0x28, 0x2E, 0x30, 0x36, 0x38,
        0x3E, 0xC6, 0xCE, 0xD6, 0xDE, 0xE0, 0xE6, 0xE8, 0xEE, 0xF0, 0xF6, 0xF8, 0xFE] then 2
    else if o.toNat ∈ [0x01, 0x08, 0x11, 0x21, 0x31, 0xC2, 0xC3, 0xC4, 0xCA, 0xCC, 0xCD, 0xD2, 0xD4,
        0xDA, 0xDC, 0xEA, 0xFA] then 3
    else 1) ∧
  decode [0x41] = .ok (.ld_B_C, []) ∧ decode [0x31, 0xFE, 0xFF] = .ok (.ld_SP_nn 0xFFFE, []) ∧
  decode [0x8B] = .ok (.adc_A_E, []) ∧ decode [0x09] = .ok (.add_HL_BC, []) ∧
  decode [0xCB, 0x37] = .ok (.swap_A, []) ∧ decode [0xCB, 0x7E] = .ok (.bit_7_atHL, []) ∧
  decode [0x20, 0xFB] = .ok (.jr_NZ_e 0xFB, []) ∧ decode [0x76] = .ok (.halt, []) ∧
  decode [0x10, 0x00] = .ok (.stop 0x00, []) ∧ decode [0xD3] = .ok (.illegal_D3, [])

/-! ## Cycles -/

/-- R920, R922: the cycle count of every legal instruction, the taken count exactly when the condition
holds. -/
def Obligations.CycleCounts : Prop :=
  ∀ f : Flags,
    (∀ i ∈ [Instr.nop, .halt, .di, .ei, .daa, .cpl, .scf, .ccf, .rlca, .rrca, .rla, .rra, .jp_HL],
      cycles i f = 4) ∧
    (∀ n, cycles (.stop n) f = 4) ∧
    (∀ dst r, cycles (Instr.ldReg dst r) f = 4) ∧
    (∀ r n, cycles (Instr.ldFromHL r) f = 8 ∧ cycles (Instr.ldToHL r) f = 8 ∧
      cycles (Instr.ldImm r n) f = 8 ∧ cycles (Instr.incReg r) f = 4 ∧ cycles (Instr.decReg r) f = 4) ∧
    (∀ i ∈ [Instr.ld_A_atBC, .ld_A_atDE, .ld_atBC_A, .ld_atDE_A, .ld_atHLinc_A, .ld_atHLdec_A,
      .ld_A_atHLinc, .ld_A_atHLdec, .ld_A_atC, .ld_atC_A, .ld_SP_HL], cycles i f = 8) ∧
    (∀ n nn, cycles (.ld_atHL_n n) f = 12 ∧ cycles (.ld_A_atNn nn) f = 16 ∧
      cycles (.ld_atNn_A nn) f = 16 ∧ cycles (.ldh_A_atN n) f = 12 ∧ cycles (.ldh_atN_A n) f = 12 ∧
      cycles (.ld_atNn_SP nn) f = 20 ∧ cycles (.add_SP_e n) f = 16 ∧ cycles (.ld_HL_SPe n) f = 12 ∧
      cycles (.jp_nn nn) f = 16 ∧ cycles (.jr_e n) f = 12 ∧ cycles (.call_nn nn) f = 24) ∧
    (∀ p nn, cycles (Instr.ldPair p nn) f = 12 ∧ cycles (Instr.addHL p) f = 8 ∧
      cycles (Instr.incPair p) f = 8 ∧ cycles (Instr.decPair p) f = 8) ∧
    (∀ p, cycles (Instr.push p) f = 16 ∧ cycles (Instr.pop p) f = 12) ∧
    (∀ op r, cycles (Instr.aluReg op r) f = 4) ∧
    (∀ op n, cycles (Instr.aluHL op) f = 8 ∧ cycles (Instr.aluImm op n) f = 8) ∧
    cycles .inc_atHL f = 12 ∧ cycles .dec_atHL f = 12 ∧ cycles .ret f = 16 ∧ cycles .reti f = 16 ∧
    (∀ b, cycles (Instr.rst b) f = 16 ∧ cycles (Instr.bitHL b) f = 12 ∧
      cycles (Instr.resHL b) f = 16 ∧ cycles (Instr.setHL b) f = 16) ∧
    (∀ b r, cycles (Instr.bitReg b r) f = 8 ∧ cycles (Instr.resReg b r) f = 8 ∧
      cycles (Instr.setReg b r) f = 8) ∧
    (∀ op r, cycles (Instr.shiftReg op r) f = 8) ∧ (∀ op, cycles (Instr.shiftHL op) f = 16) ∧
    ∀ cc nn e,
      (holds f cc → cycles (Instr.jpCc cc nn) f = 16 ∧ cycles (Instr.jrCc cc e) f = 12 ∧
        cycles (Instr.callCc cc nn) f = 24 ∧ cycles (Instr.retCc cc) f = 20) ∧
      (¬holds f cc → cycles (Instr.jpCc cc nn) f = 12 ∧ cycles (Instr.jrCc cc e) f = 8 ∧
        cycles (Instr.callCc cc nn) f = 12 ∧ cycles (Instr.retCc cc) f = 8)
end

