-- ==== Sys2Proof/Laws/Memory.lean ====
section
/-! SUPPORT. Laws of the byte store and of the images built from it: read after write, the canonical
form, and that every operation keeps it. -/
namespace Sys2Proof.Machine

/-! ### Reading -/

@[simp] theorem Memory.read_nil (a : Nat) : Memory.read [] a = none := rfl

@[simp] theorem Memory.read_write_self (m : Memory) (a : Nat) (v : Byte) :
    (m.write a v).read a = some v := by
  induction m with
  | nil => simp [Memory.write, Memory.read]
  | cons p m ih =>
    obtain ⟨k, w⟩ := p
    unfold Memory.write
    split
    · simp [Memory.read]
    · split
      · simp [Memory.read]
      · simp [Memory.read, *]

theorem Memory.read_write_of_ne (m : Memory) {a b : Nat} (v : Byte) (h : b ≠ a) :
    (m.write a v).read b = m.read b := by
  induction m with
  | nil => simp [Memory.write, Memory.read, h, Memory.unlisted]
  | cons p m ih =>
    obtain ⟨k, w⟩ := p
    unfold Memory.write
    split
    · simp [Memory.read, h]
    · split
      · subst_vars; simp [Memory.read, h]
      · simp [Memory.read, ih]

theorem Memory.read_write (m : Memory) (a b : Nat) (v : Byte) :
    (m.write a v).read b = if b = a then some v else m.read b := by
  split
  · subst_vars; simp
  · exact m.read_write_of_ne v ‹_›

theorem Memory.mem_of_read {m : Memory} {a : Nat} {v : Byte} (h : m.read a = some v) :
    (a, v) ∈ m := by
  induction m with
  | nil => simp at h
  | cons p m ih =>
    obtain ⟨k, w⟩ := p
    unfold Memory.read at h
    split at h
    · subst_vars; simp_all
    · exact List.mem_cons_of_mem _ (ih h)

/-- In canonical form a listed byte is what its address reads as. -/
theorem Memory.read_of_mem {m : Memory} (hm : m.wf) {a : Nat} {v : Byte} (h : (a, v) ∈ m) :
    m.read a = some v := by
  induction m with
  | nil => cases h
  | cons p m ih =>
    obtain ⟨k, w⟩ := p
    rw [Memory.wf, List.pairwise_cons] at hm
    rcases List.mem_cons.1 h with h | h
    · cases h; simp [Memory.read]
    · have := hm.1 _ h
      have hne : a ≠ k := by simp only at this; omega
      simp [Memory.read, hne, ih hm.2 h]

/-- A read of an address below every listed one finds nothing. -/
theorem Memory.read_below {m : Memory} {a : Nat} (h : ∀ p ∈ m, a < p.1) : m.read a = none := by
  cases hr : m.read a with
  | none => rfl
  | some v => exact absurd (h _ (Memory.mem_of_read hr)) (Nat.lt_irrefl a)

/-! ### The canonical form -/

theorem Memory.wf_nil : Memory.wf [] := List.Pairwise.nil

theorem Memory.mem_write {m : Memory} {a : Nat} {v : Byte} {p : Host.Cell}
    (h : p ∈ m.write a v) : p = (a, v) ∨ p ∈ m := by
  induction m with
  | nil => simpa [Memory.write] using h
  | cons q m ih =>
    obtain ⟨k, w⟩ := q
    unfold Memory.write at h
    split at h
    · simpa using h
    · split at h
      · rcases List.mem_cons.1 h with h | h
        · exact .inl h
        · exact .inr (List.mem_cons_of_mem _ h)
      · rcases List.mem_cons.1 h with h | h
        · exact .inr (h ▸ List.mem_cons_self)
        · exact (ih h).imp id (List.mem_cons_of_mem _)

/-- A write keeps the canonical form. -/
theorem Memory.wf_write {m : Memory} (hm : m.wf) (a : Nat) (v : Byte) : (m.write a v).wf := by
  induction m with
  | nil => simp [Memory.write, Memory.wf]
  | cons q m ih =>
    obtain ⟨k, w⟩ := q
    rw [Memory.wf, List.pairwise_cons] at hm
    unfold Memory.write
    split
    · refine List.pairwise_cons.2 ⟨fun p hp => ?_, List.pairwise_cons.2 hm⟩
      rcases List.mem_cons.1 hp with rfl | hp
      · assumption
      · have := hm.1 p hp; simp only at this ⊢; omega
    · split
      · subst_vars; exact List.pairwise_cons.2 hm
      · refine List.pairwise_cons.2 ⟨fun p hp => ?_, ih hm.2⟩
        rcases Memory.mem_write hp with rfl | hp
        · simp only; omega
        · exact hm.1 p hp

/-- A byte of every listed address satisfies what held of the old ones and of the written one. -/
theorem Memory.forall_write {P : Host.Cell → Prop} {m : Memory} {a : Nat} {v : Byte}
    (hm : ∀ p ∈ m, P p) (hp : P (a, v)) : ∀ p ∈ m.write a v, P p :=
  fun p h => (Memory.mem_write h).elim (fun e => e ▸ hp) (hm p)

/-- Canonical stores that read alike are equal. -/
theorem Memory.ext {m m' : Memory} (hm : m.wf) (hm' : m'.wf) (h : ∀ a, m.read a = m'.read a) :
    m = m' := by
  induction m generalizing m' with
  | nil =>
    cases m' with
    | nil => rfl
    | cons q m' =>
      have := h q.1
      obtain ⟨k, w⟩ := q
      simp [Memory.read, Memory.unlisted] at this
  | cons p m ih =>
    cases m' with
    | nil =>
      have := h p.1
      obtain ⟨k, w⟩ := p
      simp [Memory.read, Memory.unlisted] at this
    | cons q m' =>
      obtain ⟨k, w⟩ := p
      obtain ⟨k', w'⟩ := q
      rw [Memory.wf, List.pairwise_cons] at hm hm'
      have hk : k = k' := by
        have h1 := h k
        have h2 := h k'
        rcases Nat.lt_trichotomy k k' with hlt | heq | hlt
        · have : Memory.read m' k = none :=
            Memory.read_below fun p hp => Nat.lt_trans hlt (hm'.1 p hp)
          simp [Memory.read, Nat.ne_of_lt hlt, this] at h1
        · exact heq
        · have : Memory.read m k' = none :=
            Memory.read_below fun p hp => Nat.lt_trans hlt (hm.1 p hp)
          simp [Memory.read, Nat.ne_of_lt hlt, this] at h2
      subst hk
      have hw : w = w' := by simpa [Memory.read] using h k
      subst hw
      have htail : ∀ a, Memory.read m a = Memory.read m' a := by
        intro a
        by_cases ha : a = k
        · subst ha
          rw [Memory.read_below fun p hp => hm.1 p hp, Memory.read_below fun p hp => hm'.1 p hp]
        · simpa [Memory.read, ha] using h a
      rw [ih hm.2 hm'.2 htail]

/-! ### The images -/

theorem Memory.wf_filter {m : Memory} (hm : m.wf) (f : Host.Cell → Bool) :
    Memory.wf (m.filter f) := List.Pairwise.filter _ hm

theorem cellsFrom_bounds {k : Nat} {l : List Byte} :
    ∀ p ∈ cellsFrom k l, k ≤ p.1 ∧ p.1 < k + l.length := by
  induction l generalizing k with
  | nil => intro p h; cases h
  | cons v l ih =>
    intro p h
    rcases List.mem_cons.1 h with rfl | h
    · simp
    · have := ih p h; simp only [List.length_cons]; omega

theorem cellsFrom_wf (k : Nat) (l : List Byte) : Memory.wf (cellsFrom k l) := by
  induction l generalizing k with
  | nil => exact .nil
  | cons v l ih =>
    exact List.pairwise_cons.2 ⟨fun p h => (cellsFrom_bounds p h).1, ih (k + 1)⟩

theorem cellsFrom_read (k : Nat) (l : List Byte) (i : Nat) (h : i < l.length) :
    (cellsFrom k l).read (k + i) = some l[i] := by
  induction l generalizing k i with
  | nil => cases h
  | cons v l ih =>
    cases i with
    | zero => simp [cellsFrom, Memory.read]
    | succ i =>
      have := ih (k + 1) i (by simpa using h)
      have e : k + (i + 1) = k + 1 + i := by omega
      simp only [cellsFrom, Memory.read, List.getElem_cons_succ]
      rw [if_neg (by omega), e, this]

/-- Replacing a byte of a good ROM image leaves a good image. -/
theorem RomImage.good_put {r : RomImage} (hr : r.good) {off : Nat} (h : off < r.size) (v : Byte) :
    (r.put off v).good := by
  obtain ⟨hs, hwf, hb⟩ := hr
  unfold RomImage.put
  split
  · exact ⟨hs, Memory.wf_filter hwf _, fun p hp => hb p (List.mem_filter.1 hp).1⟩
  · exact ⟨hs, Memory.wf_write hwf _ _, Memory.forall_write hb ⟨h, ‹_›⟩⟩

/-- An image built from bytes is good once it is long enough. -/
theorem RomImage.good_ofBytes {l : List Byte} (h : 0x8000 ≤ l.length) :
    (RomImage.ofBytes l).good := by
  refine ⟨h, Memory.wf_filter (cellsFrom_wf 0 l) _, fun p hp => ?_⟩
  have hp := List.mem_filter.1 hp
  have := cellsFrom_bounds p hp.1
  exact ⟨by simpa [RomImage.ofBytes] using this.2, by simpa using hp.2⟩

/-! ### The regions (R201) -/

theorem region_eq_rom (x : Word) : region x = .rom ↔ x.toNat < 0x8000 := by
  unfold region
  repeat' split
  all_goals simp only [reduceCtorEq, true_iff, false_iff]
  all_goals omega

theorem region_eq_cartRam (x : Word) :
    region x = .cartRam ↔ 0xA000 ≤ x.toNat ∧ x.toNat < 0xC000 := by
  unfold region
  repeat' split
  all_goals simp only [reduceCtorEq, true_iff, false_iff]
  all_goals omega

theorem region_eq_echo (x : Word) :
    region x = .echo ↔ 0xE000 ≤ x.toNat ∧ x.toNat < 0xFE00 := by
  unfold region
  repeat' split
  all_goals simp only [reduceCtorEq, true_iff, false_iff]
  all_goals omega

theorem region_eq_array (x : Word) : region x = .array ↔ backed x.toNat := by
  unfold region backed
  have := x.isLt
  repeat' split
  all_goals simp only [reduceCtorEq, true_iff, false_iff]
  all_goals omega

theorem region_eq_unmapped (x : Word) :
    region x = .unmapped ↔ 0xFEA0 ≤ x.toNat ∧ x.toNat < 0xFF00 := by
  unfold region
  repeat' split
  all_goals simp only [reduceCtorEq, true_iff, false_iff]
  all_goals omega

theorem region_eq_ifByte (x : Word) : region x = .ifByte ↔ x.toNat = 0xFF0F := by
  unfold region
  repeat' split
  all_goals simp only [reduceCtorEq, true_iff, false_iff]
  all_goals omega

theorem region_eq_io (x : Word) :
    region x = .io ↔ 0xFF00 ≤ x.toNat ∧ x.toNat < 0xFF80 ∧ x.toNat ≠ 0xFF0F := by
  unfold region
  repeat' split
  all_goals simp only [reduceCtorEq, true_iff, false_iff]
  all_goals omega

theorem region_eq_ieByte (x : Word) : region x = .ieByte ↔ x.toNat = 0xFFFF := by
  have := x.isLt
  unfold region
  repeat' split
  all_goals simp only [reduceCtorEq, true_iff, false_iff]
  all_goals omega

/-- Reset memory is canonical: nothing is listed. -/
theorem State.reset_mem_wf : State.reset.mem.wf := Memory.wf_nil

end Sys2Proof.Machine
end

