-- ==== Sys2Proof/Laws/Cartridge.lean ====
section
/-! SUPPORT. Laws of the cartridge windows and the I/O bank: when cartridge RAM is mapped, and what a write
of it leaves. -/
namespace Sys2Proof.Machine

/-- A write below 0x8000 does nothing without a banking controller (R211). -/
theorem State.writeROM_of_no_mbc1 {s : State} (h : ∀ c, s.cart = some c → c.scheme = .none) (x : Word)
    (v : Byte) : s.writeROM x v = s := by
  unfold State.writeROM
  split
  · rw [h _ ‹_›]
  · rfl

/-- A write below 0x8000 writes a banking register with MBC1 (R220 to R223). -/
theorem State.writeROM_of_mbc1 {s : State} {c : Cartridge} (hc : s.cart = some c)
    (hs : c.scheme = .mbc1) (x : Word) (v : Byte) :
    s.writeROM x v = { s with bank := s.bank.write x v } := by
  unfold State.writeROM
  rw [hc]
  dsimp only
  rw [hs]

/-- When the cartridge RAM window reaches a byte (R228). -/
theorem State.mappedRam_eq_some {s : State} {x : Word} {c : Cartridge} {r : RamImage} {off : Nat} :
    s.mappedRam x = some (c, r, off) ↔
      s.cart = some c ∧ c.scheme = .mbc1 ∧ c.ram = some r ∧ s.bank.ramEnable = true ∧
        off = ramOffset s.bank x ∧ off < r.size := by
  constructor
  · intro h
    unfold State.mappedRam at h
    split at h
    · cases h
    · rename_i c' hc
      split at h
      · rename_i r' hs hr
        split at h
        · rename_i hh
          simp only [Bool.and_eq_true, decide_eq_true_eq] at hh
          cases h
          exact ⟨hc, hs, hr, hh.1, rfl, hh.2⟩
        · cases h
      · cases h
  · rintro ⟨hc, hs, hr, he, hoff, ho⟩
    rw [hoff] at ho
    have hm : (s.bank.ramEnable && decide (ramOffset s.bank x < r.size)) = true := by
      rw [he, decide_eq_true ho, Bool.and_self]
    unfold State.mappedRam
    rw [hc]
    dsimp only
    rw [hs, hr, hoff]
    exact if_pos hm

/-- A write of cartridge RAM touches the cartridge only. -/
theorem State.writeRAM_of_some {s : State} {x : Word} {c : Cartridge} {r : RamImage} {off : Nat}
    (h : s.mappedRam x = some (c, r, off)) (v : Byte) :
    s.writeRAM x v =
      { s with cart := some { c with ram := some { r with cells := r.cells.write off v } } } := by
  simp [State.writeRAM, h]

theorem State.writeRAM_of_none {s : State} {x : Word} (h : s.mappedRam x = none) (v : Byte) :
    s.writeRAM x v = s := by simp [State.writeRAM, h]

theorem State.readRAM_of_some {s : State} {x : Word} {c : Cartridge} {r : RamImage} {off : Nat}
    (h : s.mappedRam x = some (c, r, off)) : s.readRAM x = r.cells.read off := by
  simp [State.readRAM, h]

theorem State.readRAM_of_none {s : State} {x : Word} (h : s.mappedRam x = none) :
    s.readRAM x = some 0xFF := by simp [State.readRAM, h]

/-- After a write of mapped RAM the same addresses are mapped, on the written image. -/
theorem State.mappedRam_writeRAM {s : State} {x : Word} {c : Cartridge} {r : RamImage} {off : Nat}
    (h : s.mappedRam x = some (c, r, off)) (v : Byte) (y : Word) :
    (s.writeRAM x v).mappedRam y =
      (s.mappedRam y).map fun p =>
        ({ c with ram := some { r with cells := r.cells.write off v } },
          { r with cells := r.cells.write off v }, p.2.2) := by
  obtain ⟨hc, hs, hr, he, -, -⟩ := State.mappedRam_eq_some.1 h
  rw [State.writeRAM_of_some h]
  simp only [State.mappedRam, hc, hs, hr, he, Bool.true_and, decide_eq_true_eq]
  split <;> rfl

/-- A write of cartridge RAM changes no ROM byte. -/
theorem State.readROM_writeRAM (s : State) (x y : Word) (v : Byte) :
    (s.writeRAM x v).readROM y = s.readROM y := by
  cases h : s.mappedRam x with
  | none => rw [State.writeRAM_of_none h]
  | some p =>
    obtain ⟨c, r, off⟩ := p
    rw [State.writeRAM_of_some h]
    simp only [State.readROM, (State.mappedRam_eq_some.1 h).1]
    rfl

/-- Two addresses of the window name one offset only if they are equal. -/
theorem ramOffset_inj {k : Banking} {x y : Word} (hx : region x = .cartRam) (hy : region y = .cartRam)
    (h : ramOffset k x = ramOffset k y) : x = y := by
  rw [region_eq_cartRam] at hx hy
  unfold ramOffset at h
  exact BitVec.eq_of_toNat_eq (by omega)

@[simp] theorem io_get_set_self (io : Vector Byte 128) (k : Fin 128) (v : Byte) :
    (io.set k v).get k = v :=
  Vector.getElem_set_self k.isLt

theorem io_get_set_of_ne (io : Vector Byte 128) {j k : Fin 128} (v : Byte) (h : j ≠ k) :
    (io.set k v).get j = io.get j := by
  have : (k : Nat) ≠ j := fun e => h (Fin.ext e.symm)
  exact Vector.getElem_set_ne k.isLt j.isLt this

/-- Two addresses of the I/O bank name one entry only if they are equal. -/
theorem ioIndex_inj {x y : Word} (hx : region x = .io) (hy : region y = .io)
    (h : ioIndex x = ioIndex y) : x = y := by
  rw [region_eq_io] at hx hy
  have := congrArg Fin.val h
  simp only [ioIndex] at this
  exact BitVec.eq_of_toNat_eq (by omega)

end Sys2Proof.Machine
end

