-- ==== Sys2Proof/Laws/Forms.lean ====
section
/-! SUPPORT. Instructions by their forms: one case analysis over the grids of `30_encoding.md` in place of
512 constructors, and the meaning of each grid as the shared operation it calls. -/
namespace Sys2Proof

/-- What holds of every operand of every grid, and of each instruction that stands alone, holds of every
instruction. -/
theorem Instr.byForm {P : Instr → Prop}
    (ldReg : ∀ (dst : Reg8) (r : Reg8), P (Instr.ldReg dst r))
    (ldImm : ∀ (dst : Reg8) (x : Byte), P (Instr.ldImm dst x))
    (ldFromHL : ∀ (dst : Reg8), P (Instr.ldFromHL dst))
    (ldToHL : ∀ (r : Reg8), P (Instr.ldToHL r))
    (ldPair : ∀ (p : RegPair) (x : Word), P (Instr.ldPair p x))
    (push : ∀ (p : StackPair), P (Instr.push p))
    (pop : ∀ (p : StackPair), P (Instr.pop p))
    (aluReg : ∀ (op : AluOp) (r : Reg8), P (Instr.aluReg op r))
    (aluHL : ∀ (op : AluOp), P (Instr.aluHL op))
    (aluImm : ∀ (op : AluOp) (x : Byte), P (Instr.aluImm op x))
    (incReg : ∀ (r : Reg8), P (Instr.incReg r))
    (decReg : ∀ (r : Reg8), P (Instr.decReg r))
    (addHL : ∀ (p : RegPair), P (Instr.addHL p))
    (incPair : ∀ (p : RegPair), P (Instr.incPair p))
    (decPair : ∀ (p : RegPair), P (Instr.decPair p))
    (shiftReg : ∀ (op : ShiftOp) (r : Reg8), P (Instr.shiftReg op r))
    (shiftHL : ∀ (op : ShiftOp), P (Instr.shiftHL op))
    (bitReg : ∀ (b : BitIx) (r : Reg8), P (Instr.bitReg b r))
    (bitHL : ∀ (b : BitIx), P (Instr.bitHL b))
    (resReg : ∀ (b : BitIx) (r : Reg8), P (Instr.resReg b r))
    (resHL : ∀ (b : BitIx), P (Instr.resHL b))
    (setReg : ∀ (b : BitIx) (r : Reg8), P (Instr.setReg b r))
    (setHL : ∀ (b : BitIx), P (Instr.setHL b))
    (jpCc : ∀ (cc : Cond) (x : Word), P (Instr.jpCc cc x))
    (jrCc : ∀ (cc : Cond) (x : Byte), P (Instr.jrCc cc x))
    (callCc : ∀ (cc : Cond) (x : Word), P (Instr.callCc cc x))
    (retCc : ∀ (cc : Cond), P (Instr.retCc cc))
    (rst : ∀ (y : BitIx), P (Instr.rst y))
    (nop : P .nop)
    (ld_atBC_A : P .ld_atBC_A)
    (rlca : P .rlca)
    (ld_atNn_SP : ∀ x, P (.ld_atNn_SP x))
    (ld_A_atBC : P .ld_A_atBC)
    (rrca : P .rrca)
    (stop : ∀ x, P (.stop x))
    (ld_atDE_A : P .ld_atDE_A)
    (rla : P .rla)
    (jr_e : ∀ x, P (.jr_e x))
    (ld_A_atDE : P .ld_A_atDE)
    (rra : P .rra)
    (ld_atHLinc_A : P .ld_atHLinc_A)
    (daa : P .daa)
    (ld_A_atHLinc : P .ld_A_atHLinc)
    (cpl : P .cpl)
    (ld_atHLdec_A : P .ld_atHLdec_A)
    (inc_atHL : P .inc_atHL)
    (dec_atHL : P .dec_atHL)
    (ld_atHL_n : ∀ x, P (.ld_atHL_n x))
    (scf : P .scf)
    (ld_A_atHLdec : P .ld_A_atHLdec)
    (ccf : P .ccf)
    (halt : P .halt)
    (jp_nn : ∀ x, P (.jp_nn x))
    (ret : P .ret)
    (prefixCb : P .prefixCb)
    (call_nn : ∀ x, P (.call_nn x))
    (illegal_D3 : P .illegal_D3)
    (reti : P .reti)
    (illegal_DB : P .illegal_DB)
    (illegal_DD : P .illegal_DD)
    (ldh_atN_A : ∀ x, P (.ldh_atN_A x))
    (ld_atC_A : P .ld_atC_A)
    (illegal_E3 : P .illegal_E3)
    (illegal_E4 : P .illegal_E4)
    (add_SP_e : ∀ x, P (.add_SP_e x))
    (jp_HL : P .jp_HL)
    (ld_atNn_A : ∀ x, P (.ld_atNn_A x))
    (illegal_EB : P .illegal_EB)
    (illegal_EC : P .illegal_EC)
    (illegal_ED : P .illegal_ED)
    (ldh_A_atN : ∀ x, P (.ldh_A_atN x))
    (ld_A_atC : P .ld_A_atC)
    (di : P .di)
    (illegal_F4 : P .illegal_F4)
    (ld_HL_SPe : ∀ x, P (.ld_HL_SPe x))
    (ld_SP_HL : P .ld_SP_HL)
    (ld_A_atNn : ∀ x, P (.ld_A_atNn x))
    (ei : P .ei)
    (illegal_FC : P .illegal_FC)
    (illegal_FD : P .illegal_FD)
    (i : Instr) : P i :=
  match i with
  | .nop => nop
  | .ld_BC_nn x => ldPair .bc x
  | .ld_atBC_A => ld_atBC_A
  | .inc_BC => incPair .bc
  | .inc_B => incReg .b
  | .dec_B => decReg .b
  | .ld_B_n x => ldImm .b x
  | .rlca => rlca
  | .ld_atNn_SP x => ld_atNn_SP x
  | .add_HL_BC => addHL .bc
  | .ld_A_atBC => ld_A_atBC
  | .dec_BC => decPair .bc
  | .inc_C => incReg .c
  | .dec_C => decReg .c
  | .ld_C_n x => ldImm .c x
  | .rrca => rrca
  | .stop x => stop x
  | .ld_DE_nn x => ldPair .de x
  | .ld_atDE_A => ld_atDE_A
  | .inc_DE => incPair .de
  | .inc_D => incReg .d
  | .dec_D => decReg .d
  | .ld_D_n x => ldImm .d x
  | .rla => rla
  | .jr_e x => jr_e x
  | .add_HL_DE => addHL .de
  | .ld_A_atDE => ld_A_atDE
  | .dec_DE => decPair .de
  | .inc_E => incReg .e
  | .dec_E => decReg .e
  | .ld_E_n x => ldImm .e x
  | .rra => rra
  | .jr_NZ_e x => jrCc .nz x
  | .ld_HL_nn x => ldPair .hl x
  | .ld_atHLinc_A => ld_atHLinc_A
  | .inc_HL => incPair .hl
  | .inc_H => incReg .h
  | .dec_H => decReg .h
  | .ld_H_n x => ldImm .h x
  | .daa => daa
  | .jr_Z_e x => jrCc .z x
  | .add_HL_HL => addHL .hl
  | .ld_A_atHLinc => ld_A_atHLinc
  | .dec_HL => decPair .hl
  | .inc_L => incReg .l
  | .dec_L => decReg .l
  | .ld_L_n x => ldImm .l x
  | .cpl => cpl
  | .jr_NC_e x => jrCc .nc x
  | .ld_SP_nn x => ldPair .sp x
  | .ld_atHLdec_A => ld_atHLdec_A
  | .inc_SP => incPair .sp
  | .inc_atHL => inc_atHL
  | .dec_atHL => dec_atHL
  | .ld_atHL_n x => ld_atHL_n x
  | .scf => scf
  | .jr_C_e x => jrCc .c x
  | .add_HL_SP => addHL .sp
  | .ld_A_atHLdec => ld_A_atHLdec
  | .dec_SP => decPair .sp
  | .inc_A => incReg .a
  | .dec_A => decReg .a
  | .ld_A_n x => ldImm .a x
  | .ccf => ccf
  | .ld_B_B => ldReg .b .b
  | .ld_B_C => ldReg .b .c
  | .ld_B_D => ldReg .b .d
  | .ld_B_E => ldReg .b .e
  | .ld_B_H => ldReg .b .h
  | .ld_B_L => ldReg .b .l
  | .ld_B_atHL => ldFromHL .b
  | .ld_B_A => ldReg .b .a
  | .ld_C_B => ldReg .c .b
  | .ld_C_C => ldReg .c .c
  | .ld_C_D => ldReg .c .d
  | .ld_C_E => ldReg .c .e
  | .ld_C_H => ldReg .c .h
  | .ld_C_L => ldReg .c .l
  | .ld_C_atHL => ldFromHL .c
  | .ld_C_A => ldReg .c .a
  | .ld_D_B => ldReg .d .b
  | .ld_D_C => ldReg .d .c
  | .ld_D_D => ldReg .d .d
  | .ld_D_E => ldReg .d .e
  | .ld_D_H => ldReg .d .h
  | .ld_D_L => ldReg .d .l
  | .ld_D_atHL => ldFromHL .d
  | .ld_D_A => ldReg .d .a
  | .ld_E_B => ldReg .e .b
  | .ld_E_C => ldReg .e .c
  | .ld_E_D => ldReg .e .d
  | .ld_E_E => ldReg .e .e
  | .ld_E_H => ldReg .e .h
  | .ld_E_L => ldReg .e .l
  | .ld_E_atHL => ldFromHL .e
  | .ld_E_A => ldReg .e .a
  | .ld_H_B => ldReg .h .b
  | .ld_H_C => ldReg .h .c
  | .ld_H_D => ldReg .h .d
  | .ld_H_E => ldReg .h .e
  | .ld_H_H => ldReg .h .h
  | .ld_H_L => ldReg .h .l
  | .ld_H_atHL => ldFromHL .h
  | .ld_H_A => ldReg .h .a
  | .ld_L_B => ldReg .l .b
  | .ld_L_C => ldReg .l .c
  | .ld_L_D => ldReg .l .d
  | .ld_L_E => ldReg .l .e
  | .ld_L_H => ldReg .l .h
  | .ld_L_L => ldReg .l .l
  | .ld_L_atHL => ldFromHL .l
  | .ld_L_A => ldReg .l .a
  | .ld_atHL_B => ldToHL .b
  | .ld_atHL_C => ldToHL .c
  | .ld_atHL_D => ldToHL .d
  | .ld_atHL_E => ldToHL .e
  | .ld_atHL_H => ldToHL .h
  | .ld_atHL_L => ldToHL .l
  | .halt => halt
  | .ld_atHL_A => ldToHL .a
  | .ld_A_B => ldReg .a .b
  | .ld_A_C => ldReg .a .c
  | .ld_A_D => ldReg .a .d
  | .ld_A_E => ldReg .a .e
  | .ld_A_H => ldReg .a .h
  | .ld_A_L => ldReg .a .l
  | .ld_A_atHL => ldFromHL .a
  | .ld_A_A => ldReg .a .a
  | .add_A_B => aluReg .add .b
  | .add_A_C => aluReg .add .c
  | .add_A_D => aluReg .add .d
  | .add_A_E => aluReg .add .e
  | .add_A_H => aluReg .add .h
  | .add_A_L => aluReg .add .l
  | .add_A_atHL => aluHL .add
  | .add_A_A => aluReg .add .a
  | .adc_A_B => aluReg .adc .b
  | .adc_A_C => aluReg .adc .c
  | .adc_A_D => aluReg .adc .d
  | .adc_A_E => aluReg .adc .e
  | .adc_A_H => aluReg .adc .h
  | .adc_A_L => aluReg .adc .l
  | .adc_A_atHL => aluHL .adc
  | .adc_A_A => aluReg .adc .a
  | .sub_B => aluReg .sub .b
  | .sub_C => aluReg .sub .c
  | .sub_D => aluReg .sub .d
  | .sub_E => aluReg .sub .e
  | .sub_H => aluReg .sub .h
  | .sub_L => aluReg .sub .l
  | .sub_atHL => aluHL .sub
  | .sub_A => aluReg .sub .a
  | .sbc_A_B => aluReg .sbc .b
  | .sbc_A_C => aluReg .sbc .c
  | .sbc_A_D => aluReg .sbc .d
  | .sbc_A_E => aluReg .sbc .e
  | .sbc_A_H => aluReg .sbc .h
  | .sbc_A_L => aluReg .sbc .l
  | .sbc_A_atHL => aluHL .sbc
  | .sbc_A_A => aluReg .sbc .a
  | .and_B => aluReg .and .b
  | .and_C => aluReg .and .c
  | .and_D => aluReg .and .d
  | .and_E => aluReg .and .e
  | .and_H => aluReg .and .h
  | .and_L => aluReg .and .l
  | .and_atHL => aluHL .and
  | .and_A => aluReg .and .a
  | .xor_B => aluReg .xor .b
  | .xor_C => aluReg .xor .c
  | .xor_D => aluReg .xor .d
  | .xor_E => aluReg .xor .e
  | .xor_H => aluReg .xor .h
  | .xor_L => aluReg .xor .l
  | .xor_atHL => aluHL .xor
  | .xor_A => aluReg .xor .a
  | .or_B => aluReg .or .b
  | .or_C => aluReg .or .c
  | .or_D => aluReg .or .d
  | .or_E => aluReg .or .e
  | .or_H => aluReg .or .h
  | .or_L => aluReg .or .l
  | .or_atHL => aluHL .or
  | .or_A => aluReg .or .a
  | .cp_B => aluReg .cp .b
  | .cp_C => aluReg .cp .c
  | .cp_D => aluReg .cp .d
  | .cp_E => aluReg .cp .e
  | .cp_H => aluReg .cp .h
  | .cp_L => aluReg .cp .l
  | .cp_atHL => aluHL .cp
  | .cp_A => aluReg .cp .a
  | .ret_NZ => retCc .nz
  | .pop_BC => pop .bc
  | .jp_NZ_nn x => jpCc .nz x
  | .jp_nn x => jp_nn x
  | .call_NZ_nn x => callCc .nz x
  | .push_BC => push .bc
  | .add_A_n x => aluImm .add x
  | .rst_00 => rst .b0
  | .ret_Z => retCc .z
  | .ret => ret
  | .jp_Z_nn x => jpCc .z x
  | .prefixCb => prefixCb
  | .call_Z_nn x => callCc .z x
  | .call_nn x => call_nn x
  | .adc_A_n x => aluImm .adc x
  | .rst_08 => rst .b1
  | .ret_NC => retCc .nc
  | .pop_DE => pop .de
  | .jp_NC_nn x => jpCc .nc x
  | .illegal_D3 => illegal_D3
  | .call_NC_nn x => callCc .nc x
  | .push_DE => push .de
  | .sub_n x => aluImm .sub x
  | .rst_10 => rst .b2
  | .ret_C => retCc .c
  | .reti => reti
  | .jp_C_nn x => jpCc .c x
  | .illegal_DB => illegal_DB
  | .call_C_nn x => callCc .c x
  | .illegal_DD => illegal_DD
  | .sbc_A_n x => aluImm .sbc x
  | .rst_18 => rst .b3
  | .ldh_atN_A x => ldh_atN_A x
  | .pop_HL => pop .hl
  | .ld_atC_A => ld_atC_A
  | .illegal_E3 => illegal_E3
  | .illegal_E4 => illegal_E4
  | .push_HL => push .hl
  | .and_n x => aluImm .and x
  | .rst_20 => rst .b4
  | .add_SP_e x => add_SP_e x
  | .jp_HL => jp_HL
  | .ld_atNn_A x => ld_atNn_A x
  | .illegal_EB => illegal_EB
  | .illegal_EC => illegal_EC
  | .illegal_ED => illegal_ED
  | .xor_n x => aluImm .xor x
  | .rst_28 => rst .b5
  | .ldh_A_atN x => ldh_A_atN x
  | .pop_AF => pop .af
  | .ld_A_atC => ld_A_atC
  | .di => di
  | .illegal_F4 => illegal_F4
  | .push_AF => push .af
  | .or_n x => aluImm .or x
  | .rst_30 => rst .b6
  | .ld_HL_SPe x => ld_HL_SPe x
  | .ld_SP_HL => ld_SP_HL
  | .ld_A_atNn x => ld_A_atNn x
  | .ei => ei
  | .illegal_FC => illegal_FC
  | .illegal_FD => illegal_FD
  | .cp_n x => aluImm .cp x
  | .rst_38 => rst .b7
  | .rlc_B => shiftReg .rlc .b
  | .rlc_C => shiftReg .rlc .c
  | .rlc_D => shiftReg .rlc .d
  | .rlc_E => shiftReg .rlc .e
  | .rlc_H => shiftReg .rlc .h
  | .rlc_L => shiftReg .rlc .l
  | .rlc_atHL => shiftHL .rlc
  | .rlc_A => shiftReg .rlc .a
  | .rrc_B => shiftReg .rrc .b
  | .rrc_C => shiftReg .rrc .c
  | .rrc_D => shiftReg .rrc .d
  | .rrc_E => shiftReg .rrc .e
  | .rrc_H => shiftReg .rrc .h
  | .rrc_L => shiftReg .rrc .l
  | .rrc_atHL => shiftHL .rrc
  | .rrc_A => shiftReg .rrc .a
  | .rl_B => shiftReg .rl .b
  | .rl_C => shiftReg .rl .c
  | .rl_D => shiftReg .rl .d
  | .rl_E => shiftReg .rl .e
  | .rl_H => shiftReg .rl .h
  | .rl_L => shiftReg .rl .l
  | .rl_atHL => shiftHL .rl
  | .rl_A => shiftReg .rl .a
  | .rr_B => shiftReg .rr .b
  | .rr_C => shiftReg .rr .c
  | .rr_D => shiftReg .rr .d
  | .rr_E => shiftReg .rr .e
  | .rr_H => shiftReg .rr .h
  | .rr_L => shiftReg .rr .l
  | .rr_atHL => shiftHL .rr
  | .rr_A => shiftReg .rr .a
  | .sla_B => shiftReg .sla .b
  | .sla_C => shiftReg .sla .c
  | .sla_D => shiftReg .sla .d
  | .sla_E => shiftReg .sla .e
  | .sla_H => shiftReg .sla .h
  | .sla_L => shiftReg .sla .l
  | .sla_atHL => shiftHL .sla
  | .sla_A => shiftReg .sla .a
  | .sra_B => shiftReg .sra .b
  | .sra_C => shiftReg .sra .c
  | .sra_D => shiftReg .sra .d
  | .sra_E => shiftReg .sra .e
  | .sra_H => shiftReg .sra .h
  | .sra_L => shiftReg .sra .l
  | .sra_atHL => shiftHL .sra
  | .sra_A => shiftReg .sra .a
  | .swap_B => shiftReg .swap .b
  | .swap_C => shiftReg .swap .c
  | .swap_D => shiftReg .swap .d
  | .swap_E => shiftReg .swap .e
  | .swap_H => shiftReg .swap .h
  | .swap_L => shiftReg .swap .l
  | .swap_atHL => shiftHL .swap
  | .swap_A => shiftReg .swap .a
  | .srl_B => shiftReg .srl .b
  | .srl_C => shiftReg .srl .c
  | .srl_D => shiftReg .srl .d
  | .srl_E => shiftReg .srl .e
  | .srl_H => shiftReg .srl .h
  | .srl_L => shiftReg .srl .l
  | .srl_atHL => shiftHL .srl
  | .srl_A => shiftReg .srl .a
  | .bit_0_B => bitReg .b0 .b
  | .bit_0_C => bitReg .b0 .c
  | .bit_0_D => bitReg .b0 .d
  | .bit_0_E => bitReg .b0 .e
  | .bit_0_H => bitReg .b0 .h
  | .bit_0_L => bitReg .b0 .l
  | .bit_0_atHL => bitHL .b0
  | .bit_0_A => bitReg .b0 .a
  | .bit_1_B => bitReg .b1 .b
  | .bit_1_C => bitReg .b1 .c
  | .bit_1_D => bitReg .b1 .d
  | .bit_1_E => bitReg .b1 .e
  | .bit_1_H => bitReg .b1 .h
  | .bit_1_L => bitReg .b1 .l
  | .bit_1_atHL => bitHL .b1
  | .bit_1_A => bitReg .b1 .a
  | .bit_2_B => bitReg .b2 .b
  | .bit_2_C => bitReg .b2 .c
  | .bit_2_D => bitReg .b2 .d
  | .bit_2_E => bitReg .b2 .e
  | .bit_2_H => bitReg .b2 .h
  | .bit_2_L => bitReg .b2 .l
  | .bit_2_atHL => bitHL .b2
  | .bit_2_A => bitReg .b2 .a
  | .bit_3_B => bitReg .b3 .b
  | .bit_3_C => bitReg .b3 .c
  | .bit_3_D => bitReg .b3 .d
  | .bit_3_E => bitReg .b3 .e
  | .bit_3_H => bitReg .b3 .h
  | .bit_3_L => bitReg .b3 .l
  | .bit_3_atHL => bitHL .b3
  | .bit_3_A => bitReg .b3 .a
  | .bit_4_B => bitReg .b4 .b
  | .bit_4_C => bitReg .b4 .c
  | .bit_4_D => bitReg .b4 .d
  | .bit_4_E => bitReg .b4 .e
  | .bit_4_H => bitReg .b4 .h
  | .bit_4_L => bitReg .b4 .l
  | .bit_4_atHL => bitHL .b4
  | .bit_4_A => bitReg .b4 .a
  | .bit_5_B => bitReg .b5 .b
  | .bit_5_C => bitReg .b5 .c
  | .bit_5_D => bitReg .b5 .d
  | .bit_5_E => bitReg .b5 .e
  | .bit_5_H => bitReg .b5 .h
  | .bit_5_L => bitReg .b5 .l
  | .bit_5_atHL => bitHL .b5
  | .bit_5_A => bitReg .b5 .a
  | .bit_6_B => bitReg .b6 .b
  | .bit_6_C => bitReg .b6 .c
  | .bit_6_D => bitReg .b6 .d
  | .bit_6_E => bitReg .b6 .e
  | .bit_6_H => bitReg .b6 .h
  | .bit_6_L => bitReg .b6 .l
  | .bit_6_atHL => bitHL .b6
  | .bit_6_A => bitReg .b6 .a
  | .bit_7_B => bitReg .b7 .b
  | .bit_7_C => bitReg .b7 .c
  | .bit_7_D => bitReg .b7 .d
  | .bit_7_E => bitReg .b7 .e
  | .bit_7_H => bitReg .b7 .h
  | .bit_7_L => bitReg .b7 .l
  | .bit_7_atHL => bitHL .b7
  | .bit_7_A => bitReg .b7 .a
  | .res_0_B => resReg .b0 .b
  | .res_0_C => resReg .b0 .c
  | .res_0_D => resReg .b0 .d
  | .res_0_E => resReg .b0 .e
  | .res_0_H => resReg .b0 .h
  | .res_0_L => resReg .b0 .l
  | .res_0_atHL => resHL .b0
  | .res_0_A => resReg .b0 .a
  | .res_1_B => resReg .b1 .b
  | .res_1_C => resReg .b1 .c
  | .res_1_D => resReg .b1 .d
  | .res_1_E => resReg .b1 .e
  | .res_1_H => resReg .b1 .h
  | .res_1_L => resReg .b1 .l
  | .res_1_atHL => resHL .b1
  | .res_1_A => resReg .b1 .a
  | .res_2_B => resReg .b2 .b
  | .res_2_C => resReg .b2 .c
  | .res_2_D => resReg .b2 .d
  | .res_2_E => resReg .b2 .e
  | .res_2_H => resReg .b2 .h
  | .res_2_L => resReg .b2 .l
  | .res_2_atHL => resHL .b2
  | .res_2_A => resReg .b2 .a
  | .res_3_B => resReg .b3 .b
  | .res_3_C => resReg .b3 .c
  | .res_3_D => resReg .b3 .d
  | .res_3_E => resReg .b3 .e
  | .res_3_H => resReg .b3 .h
  | .res_3_L => resReg .b3 .l
  | .res_3_atHL => resHL .b3
  | .res_3_A => resReg .b3 .a
  | .res_4_B => resReg .b4 .b
  | .res_4_C => resReg .b4 .c
  | .res_4_D => resReg .b4 .d
  | .res_4_E => resReg .b4 .e
  | .res_4_H => resReg .b4 .h
  | .res_4_L => resReg .b4 .l
  | .res_4_atHL => resHL .b4
  | .res_4_A => resReg .b4 .a
  | .res_5_B => resReg .b5 .b
  | .res_5_C => resReg .b5 .c
  | .res_5_D => resReg .b5 .d
  | .res_5_E => resReg .b5 .e
  | .res_5_H => resReg .b5 .h
  | .res_5_L => resReg .b5 .l
  | .res_5_atHL => resHL .b5
  | .res_5_A => resReg .b5 .a
  | .res_6_B => resReg .b6 .b
  | .res_6_C => resReg .b6 .c
  | .res_6_D => resReg .b6 .d
  | .res_6_E => resReg .b6 .e
  | .res_6_H => resReg .b6 .h
  | .res_6_L => resReg .b6 .l
  | .res_6_atHL => resHL .b6
  | .res_6_A => resReg .b6 .a
  | .res_7_B => resReg .b7 .b
  | .res_7_C => resReg .b7 .c
  | .res_7_D => resReg .b7 .d
  | .res_7_E => resReg .b7 .e
  | .res_7_H => resReg .b7 .h
  | .res_7_L => resReg .b7 .l
  | .res_7_atHL => resHL .b7
  | .res_7_A => resReg .b7 .a
  | .set_0_B => setReg .b0 .b
  | .set_0_C => setReg .b0 .c
  | .set_0_D => setReg .b0 .d
  | .set_0_E => setReg .b0 .e
  | .set_0_H => setReg .b0 .h
  | .set_0_L => setReg .b0 .l
  | .set_0_atHL => setHL .b0
  | .set_0_A => setReg .b0 .a
  | .set_1_B => setReg .b1 .b
  | .set_1_C => setReg .b1 .c
  | .set_1_D => setReg .b1 .d
  | .set_1_E => setReg .b1 .e
  | .set_1_H => setReg .b1 .h
  | .set_1_L => setReg .b1 .l
  | .set_1_atHL => setHL .b1
  | .set_1_A => setReg .b1 .a
  | .set_2_B => setReg .b2 .b
  | .set_2_C => setReg .b2 .c
  | .set_2_D => setReg .b2 .d
  | .set_2_E => setReg .b2 .e
  | .set_2_H => setReg .b2 .h
  | .set_2_L => setReg .b2 .l
  | .set_2_atHL => setHL .b2
  | .set_2_A => setReg .b2 .a
  | .set_3_B => setReg .b3 .b
  | .set_3_C => setReg .b3 .c
  | .set_3_D => setReg .b3 .d
  | .set_3_E => setReg .b3 .e
  | .set_3_H => setReg .b3 .h
  | .set_3_L => setReg .b3 .l
  | .set_3_atHL => setHL .b3
  | .set_3_A => setReg .b3 .a
  | .set_4_B => setReg .b4 .b
  | .set_4_C => setReg .b4 .c
  | .set_4_D => setReg .b4 .d
  | .set_4_E => setReg .b4 .e
  | .set_4_H => setReg .b4 .h
  | .set_4_L => setReg .b4 .l
  | .set_4_atHL => setHL .b4
  | .set_4_A => setReg .b4 .a
  | .set_5_B => setReg .b5 .b
  | .set_5_C => setReg .b5 .c
  | .set_5_D => setReg .b5 .d
  | .set_5_E => setReg .b5 .e
  | .set_5_H => setReg .b5 .h
  | .set_5_L => setReg .b5 .l
  | .set_5_atHL => setHL .b5
  | .set_5_A => setReg .b5 .a
  | .set_6_B => setReg .b6 .b
  | .set_6_C => setReg .b6 .c
  | .set_6_D => setReg .b6 .d
  | .set_6_E => setReg .b6 .e
  | .set_6_H => setReg .b6 .h
  | .set_6_L => setReg .b6 .l
  | .set_6_atHL => setHL .b6
  | .set_6_A => setReg .b6 .a
  | .set_7_B => setReg .b7 .b
  | .set_7_C => setReg .b7 .c
  | .set_7_D => setReg .b7 .d
  | .set_7_E => setReg .b7 .e
  | .set_7_H => setReg .b7 .h
  | .set_7_L => setReg .b7 .l
  | .set_7_atHL => setHL .b7
  | .set_7_A => setReg .b7 .a

end Sys2Proof

namespace Sys2Proof.Machine

@[simp] theorem exec_ldReg (dst : Reg8) (r : Reg8) (s : State) :
    exec (Instr.ldReg dst r) s = loadReg dst r s := by cases dst <;> cases r <;> rfl

@[simp] theorem exec_ldImm (dst : Reg8) (x : Byte) (s : State) :
    exec (Instr.ldImm dst x) s = loadImm dst x s := by cases dst <;> rfl

@[simp] theorem exec_ldFromHL (dst : Reg8) (s : State) :
    exec (Instr.ldFromHL dst) s = loadFromHL dst s := by cases dst <;> rfl

@[simp] theorem exec_ldToHL (r : Reg8) (s : State) :
    exec (Instr.ldToHL r) s = storeToHL (s.reg r) s := by cases r <;> rfl

@[simp] theorem exec_ldPair (p : RegPair) (x : Word) (s : State) :
    exec (Instr.ldPair p x) s = loadPair p x s := by cases p <;> rfl

@[simp] theorem exec_push (p : StackPair) (s : State) :
    exec (Instr.push p) s = pushPair p s := by cases p <;> rfl

@[simp] theorem exec_pop (p : StackPair) (s : State) :
    exec (Instr.pop p) s = popPair p s := by cases p <;> rfl

@[simp] theorem exec_aluReg (op : AluOp) (r : Reg8) (s : State) :
    exec (Instr.aluReg op r) s = aluOnByte op (s.reg r) s := by cases op <;> cases r <;> rfl

@[simp] theorem exec_aluHL (op : AluOp) (s : State) :
    exec (Instr.aluHL op) s = aluOnHL op s := by cases op <;> rfl

@[simp] theorem exec_aluImm (op : AluOp) (x : Byte) (s : State) :
    exec (Instr.aluImm op x) s = aluOnByte op x s := by cases op <;> rfl

@[simp] theorem exec_incReg (r : Reg8) (s : State) :
    exec (Instr.incReg r) s = incrementReg r s := by cases r <;> rfl

@[simp] theorem exec_decReg (r : Reg8) (s : State) :
    exec (Instr.decReg r) s = decrementReg r s := by cases r <;> rfl

@[simp] theorem exec_addHL (p : RegPair) (s : State) :
    exec (Instr.addHL p) s = addToHL p s := by cases p <;> rfl

@[simp] theorem exec_incPair (p : RegPair) (s : State) :
    exec (Instr.incPair p) s = incrementPair p s := by cases p <;> rfl

@[simp] theorem exec_decPair (p : RegPair) (s : State) :
    exec (Instr.decPair p) s = decrementPair p s := by cases p <;> rfl

@[simp] theorem exec_shiftReg (op : ShiftOp) (r : Reg8) (s : State) :
    exec (Instr.shiftReg op r) s = shiftOnReg op r s := by cases op <;> cases r <;> rfl

@[simp] theorem exec_shiftHL (op : ShiftOp) (s : State) :
    exec (Instr.shiftHL op) s = shiftOnHL op s := by cases op <;> rfl

@[simp] theorem exec_bitReg (b : BitIx) (r : Reg8) (s : State) :
    exec (Instr.bitReg b r) s = testBitOnReg b r s := by cases b <;> cases r <;> rfl

@[simp] theorem exec_bitHL (b : BitIx) (s : State) :
    exec (Instr.bitHL b) s = testBitOnHL b s := by cases b <;> rfl

@[simp] theorem exec_resReg (b : BitIx) (r : Reg8) (s : State) :
    exec (Instr.resReg b r) s = resetBitOnReg b r s := by cases b <;> cases r <;> rfl

@[simp] theorem exec_resHL (b : BitIx) (s : State) :
    exec (Instr.resHL b) s = resetBitOnHL b s := by cases b <;> rfl

@[simp] theorem exec_setReg (b : BitIx) (r : Reg8) (s : State) :
    exec (Instr.setReg b r) s = setBitOnReg b r s := by cases b <;> cases r <;> rfl

@[simp] theorem exec_setHL (b : BitIx) (s : State) :
    exec (Instr.setHL b) s = setBitOnHL b s := by cases b <;> rfl

@[simp] theorem exec_jpCc (cc : Cond) (x : Word) (s : State) :
    exec (Instr.jpCc cc x) s = jumpIf cc x s := by cases cc <;> rfl

@[simp] theorem exec_jrCc (cc : Cond) (x : Byte) (s : State) :
    exec (Instr.jrCc cc x) s = jumpRelativeIf cc x s := by cases cc <;> rfl

@[simp] theorem exec_callCc (cc : Cond) (x : Word) (s : State) :
    exec (Instr.callCc cc x) s = callIf cc x s := by cases cc <;> rfl

@[simp] theorem exec_retCc (cc : Cond) (s : State) :
    exec (Instr.retCc cc) s = retIf cc s := by cases cc <;> rfl

@[simp] theorem exec_rst (y : BitIx) (s : State) :
    exec (Instr.rst y) s = call (BitVec.ofNat 16 (8 * bitNumber y)) s := by cases y <;> rfl

/-! ### The instructions that stand alone -/

@[simp] theorem exec_nop (s : State) :
    exec .nop s = noOperation s := rfl

@[simp] theorem exec_ld_atBC_A (s : State) :
    exec .ld_atBC_A s = storeA s.bc s := rfl

@[simp] theorem exec_rlca (s : State) :
    exec .rlca s = rotateA .rlc s := rfl

@[simp] theorem exec_ld_atNn_SP (nn : Word) (s : State) :
    exec (.ld_atNn_SP nn) s = storeSP nn s := rfl

@[simp] theorem exec_ld_A_atBC (s : State) :
    exec .ld_A_atBC s = loadA s.bc s := rfl

@[simp] theorem exec_rrca (s : State) :
    exec .rrca s = rotateA .rrc s := rfl

@[simp] theorem exec_stop (n : Byte) (s : State) :
    exec (.stop n) s = stop s := rfl

@[simp] theorem exec_ld_atDE_A (s : State) :
    exec .ld_atDE_A s = storeA s.de s := rfl

@[simp] theorem exec_rla (s : State) :
    exec .rla s = rotateA .rl s := rfl

@[simp] theorem exec_jr_e (e : Byte) (s : State) :
    exec (.jr_e e) s = jumpRelative e s := rfl

@[simp] theorem exec_ld_A_atDE (s : State) :
    exec .ld_A_atDE s = loadA s.de s := rfl

@[simp] theorem exec_rra (s : State) :
    exec .rra s = rotateA .rr s := rfl

@[simp] theorem exec_ld_atHLinc_A (s : State) :
    exec .ld_atHLinc_A s = storeAStep 1 s := rfl

@[simp] theorem exec_daa (s : State) :
    exec .daa s = decimalAdjust s := rfl

@[simp] theorem exec_ld_A_atHLinc (s : State) :
    exec .ld_A_atHLinc s = loadAStep 1 s := rfl

@[simp] theorem exec_cpl (s : State) :
    exec .cpl s = complementA s := rfl

@[simp] theorem exec_ld_atHLdec_A (s : State) :
    exec .ld_atHLdec_A s = storeAStep (-1) s := rfl

@[simp] theorem exec_inc_atHL (s : State) :
    exec .inc_atHL s = incrementHL s := rfl

@[simp] theorem exec_dec_atHL (s : State) :
    exec .dec_atHL s = decrementHL s := rfl

@[simp] theorem exec_ld_atHL_n (n : Byte) (s : State) :
    exec (.ld_atHL_n n) s = storeToHL n s := rfl

@[simp] theorem exec_scf (s : State) :
    exec .scf s = setCarry s := rfl

@[simp] theorem exec_ld_A_atHLdec (s : State) :
    exec .ld_A_atHLdec s = loadAStep (-1) s := rfl

@[simp] theorem exec_ccf (s : State) :
    exec .ccf s = complementCarry s := rfl

@[simp] theorem exec_halt (s : State) :
    exec .halt s = halt s := rfl

@[simp] theorem exec_jp_nn (nn : Word) (s : State) :
    exec (.jp_nn nn) s = jump nn s := rfl

@[simp] theorem exec_ret (s : State) :
    exec .ret s = ret s := rfl

@[simp] theorem exec_prefixCb (s : State) :
    exec .prefixCb s = escape s := rfl

@[simp] theorem exec_call_nn (nn : Word) (s : State) :
    exec (.call_nn nn) s = call nn s := rfl

@[simp] theorem exec_illegal_D3 (s : State) :
    exec .illegal_D3 s = illegalOpcode 0xD3 s := rfl

@[simp] theorem exec_reti (s : State) :
    exec .reti s = returnFromInterrupt s := rfl

@[simp] theorem exec_illegal_DB (s : State) :
    exec .illegal_DB s = illegalOpcode 0xDB s := rfl

@[simp] theorem exec_illegal_DD (s : State) :
    exec .illegal_DD s = illegalOpcode 0xDD s := rfl

@[simp] theorem exec_ldh_atN_A (n : Byte) (s : State) :
    exec (.ldh_atN_A n) s = storeA (highPage n) s := rfl

@[simp] theorem exec_ld_atC_A (s : State) :
    exec .ld_atC_A s = storeA (highPage s.c) s := rfl

@[simp] theorem exec_illegal_E3 (s : State) :
    exec .illegal_E3 s = illegalOpcode 0xE3 s := rfl

@[simp] theorem exec_illegal_E4 (s : State) :
    exec .illegal_E4 s = illegalOpcode 0xE4 s := rfl

@[simp] theorem exec_add_SP_e (e : Byte) (s : State) :
    exec (.add_SP_e e) s = addToSP e s := rfl

@[simp] theorem exec_jp_HL (s : State) :
    exec .jp_HL s = jump s.hl s := rfl

@[simp] theorem exec_ld_atNn_A (nn : Word) (s : State) :
    exec (.ld_atNn_A nn) s = storeA nn s := rfl

@[simp] theorem exec_illegal_EB (s : State) :
    exec .illegal_EB s = illegalOpcode 0xEB s := rfl

@[simp] theorem exec_illegal_EC (s : State) :
    exec .illegal_EC s = illegalOpcode 0xEC s := rfl

@[simp] theorem exec_illegal_ED (s : State) :
    exec .illegal_ED s = illegalOpcode 0xED s := rfl

@[simp] theorem exec_ldh_A_atN (n : Byte) (s : State) :
    exec (.ldh_A_atN n) s = loadA (highPage n) s := rfl

@[simp] theorem exec_ld_A_atC (s : State) :
    exec .ld_A_atC s = loadA (highPage s.c) s := rfl

@[simp] theorem exec_di (s : State) :
    exec .di s = disableInterrupts s := rfl

@[simp] theorem exec_illegal_F4 (s : State) :
    exec .illegal_F4 s = illegalOpcode 0xF4 s := rfl

@[simp] theorem exec_ld_HL_SPe (e : Byte) (s : State) :
    exec (.ld_HL_SPe e) s = loadHLFromSP e s := rfl

@[simp] theorem exec_ld_SP_HL (s : State) :
    exec .ld_SP_HL s = loadSPFromHL s := rfl

@[simp] theorem exec_ld_A_atNn (nn : Word) (s : State) :
    exec (.ld_A_atNn nn) s = loadA nn s := rfl

@[simp] theorem exec_ei (s : State) :
    exec .ei s = enableInterrupts s := rfl

@[simp] theorem exec_illegal_FC (s : State) :
    exec .illegal_FC s = illegalOpcode 0xFC s := rfl

@[simp] theorem exec_illegal_FD (s : State) :
    exec .illegal_FD s = illegalOpcode 0xFD s := rfl

end Sys2Proof.Machine
end

