-- ==== Sys2Proof/Laws/Decode.lean ====
section
/-! SUPPORT. Laws of the decoder: words of two bytes, decoding by the form of the first byte, and the
extended page's meanings. -/
namespace Sys2Proof

@[simp] theorem highByte_wordOf (hi lo : Byte) : highByte (wordOf hi lo) = hi := by
  ext i h
  simp [highByte, wordOf]
  grind

@[simp] theorem lowByte_wordOf (hi lo : Byte) : lowByte (wordOf hi lo) = lo := by
  ext i h
  simp [lowByte, wordOf]
  grind

@[simp] theorem wordOf_highByte_lowByte (v : Word) : wordOf (highByte v) (lowByte v) = v := by
  ext i h
  simp [highByte, lowByte, wordOf]
  grind

theorem decode_op {o : Byte} {i : Instr} (h : onePage o = .op i) (rest : List Byte) :
    decode (o :: rest) = .ok (i, rest) := by simp [decode, h]

theorem decode_imm8 {o : Byte} {k : Byte → Instr} (h : onePage o = .imm8 k) (n : Byte)
    (rest : List Byte) : decode (o :: n :: rest) = .ok (k n, rest) := by simp [decode, h]

theorem decode_imm16 {o : Byte} {k : Word → Instr} (h : onePage o = .imm16 k) (nn : Word)
    (rest : List Byte) : decode (o :: lowByte nn :: highByte nn :: rest) = .ok (k nn, rest) := by
  simp [decode, h]

theorem decode_extended (o : Byte) (rest : List Byte) :
    decode (0xCB :: o :: rest) = .ok (extendedPage o, rest) := rfl

/-- What a decode that succeeds read, by the form of the first byte. -/
theorem decode_cases {bytes rest : List Byte} {i : Instr} (h : decode bytes = .ok (i, rest)) :
    ∃ o tail, bytes = o :: tail ∧
      ((onePage o = .op i ∧ tail = rest) ∨
       (∃ k n, onePage o = .imm8 k ∧ tail = n :: rest ∧ i = k n) ∨
       (∃ k lo hi, onePage o = .imm16 k ∧ tail = lo :: hi :: rest ∧ i = k (wordOf hi lo)) ∨
       (onePage o = .escape ∧ ((∃ o2, tail = o2 :: rest ∧ i = extendedPage o2) ∨
         (tail = [] ∧ rest = [] ∧ i = .prefixCb)))) := by
  cases bytes with
  | nil => cases h
  | cons o tail =>
    refine ⟨o, tail, rfl, ?_⟩
    simp only [decode] at h
    cases hf : onePage o with
    | op j =>
      rw [hf] at h; cases h
      exact .inl ⟨rfl, rfl⟩
    | imm8 k =>
      rw [hf] at h
      rcases tail with _ | ⟨n, tail⟩ <;> cases h
      exact .inr (.inl ⟨k, n, rfl, rfl, rfl⟩)
    | imm16 k =>
      rw [hf] at h
      rcases tail with _ | ⟨lo, _ | ⟨hi, tail⟩⟩ <;> cases h
      exact .inr (.inr (.inl ⟨k, lo, hi, rfl, rfl, rfl⟩))
    | escape =>
      rw [hf] at h
      rcases tail with _ | ⟨o2, tail⟩ <;> cases h
      · exact .inr (.inr (.inr ⟨rfl, .inr ⟨rfl, rfl, rfl⟩⟩))
      · exact .inr (.inr (.inr ⟨rfl, .inl ⟨o2, rfl, rfl⟩⟩))

end Sys2Proof

namespace Sys2Proof.Machine

/-- The extended page's meanings, and the escape's own reading of them, agree (R316, R751). -/
theorem exec_extendedPage (o : Byte) (s : State) :
    exec (extendedPage o) s = extendedInstruction o s := by
  unfold extendedPage extendedInstruction
  cases Reg8.ofCode (fieldZ o) <;> rcases fieldX o with _ | _ | _ | _ <;> simp

end Sys2Proof.Machine
end

