-- ==== Sys2Proof/Laws/State.lean ====
section
/-! SUPPORT. Field laws of State: what each named update leaves in each field, and what it leaves of a
read through the address decoder. -/
namespace Sys2Proof.Machine

/-! ### `setReg` -/

@[simp] theorem State.setReg_f (s : State) (r : Reg8) (v : Byte) :
    (s.setReg r v).f = s.f := by cases r <;> rfl

@[simp] theorem State.setReg_sp (s : State) (r : Reg8) (v : Byte) :
    (s.setReg r v).sp = s.sp := by cases r <;> rfl

@[simp] theorem State.setReg_pc (s : State) (r : Reg8) (v : Byte) :
    (s.setReg r v).pc = s.pc := by cases r <;> rfl

@[simp] theorem State.setReg_run (s : State) (r : Reg8) (v : Byte) :
    (s.setReg r v).run = s.run := by cases r <;> rfl

@[simp] theorem State.setReg_ieReg (s : State) (r : Reg8) (v : Byte) :
    (s.setReg r v).ieReg = s.ieReg := by cases r <;> rfl

@[simp] theorem State.setReg_ifReg (s : State) (r : Reg8) (v : Byte) :
    (s.setReg r v).ifReg = s.ifReg := by cases r <;> rfl

@[simp] theorem State.setReg_ime (s : State) (r : Reg8) (v : Byte) :
    (s.setReg r v).ime = s.ime := by cases r <;> rfl

@[simp] theorem State.setReg_eiDelay (s : State) (r : Reg8) (v : Byte) :
    (s.setReg r v).eiDelay = s.eiDelay := by cases r <;> rfl

@[simp] theorem State.setReg_haltRepeat (s : State) (r : Reg8) (v : Byte) :
    (s.setReg r v).haltRepeat = s.haltRepeat := by cases r <;> rfl

@[simp] theorem State.setReg_cart (s : State) (r : Reg8) (v : Byte) :
    (s.setReg r v).cart = s.cart := by cases r <;> rfl

@[simp] theorem State.setReg_bank (s : State) (r : Reg8) (v : Byte) :
    (s.setReg r v).bank = s.bank := by cases r <;> rfl

@[simp] theorem State.setReg_mem (s : State) (r : Reg8) (v : Byte) :
    (s.setReg r v).mem = s.mem := by cases r <;> rfl

@[simp] theorem State.setReg_io (s : State) (r : Reg8) (v : Byte) :
    (s.setReg r v).io = s.io := by cases r <;> rfl

@[simp] theorem State.setReg_haltBug (s : State) (r : Reg8) (v : Byte) :
    (s.setReg r v).haltBug = s.haltBug := by cases r <;> rfl

@[simp] theorem State.setReg_start (s : State) (r : Reg8) (v : Byte) :
    (s.setReg r v).start = s.start := by cases r <;> rfl

@[simp] theorem State.setReg_report (s : State) (r : Reg8) (v : Byte) :
    (s.setReg r v).report = s.report := by cases r <;> rfl

@[simp] theorem State.reg_setReg_self (s : State) (r : Reg8) (v : Byte) :
    (s.setReg r v).reg r = v := by cases r <;> rfl

theorem State.reg_setReg_of_ne (s : State) (r q : Reg8) (v : Byte) (h : q ≠ r) :
    (s.setReg r v).reg q = s.reg q := by
  cases r <;> cases q <;> first | rfl | exact absurd rfl h

@[simp] theorem State.read_setReg (s : State) (r : Reg8) (v : Byte) (x : Word) :
    (s.setReg r v).read x = s.read x := by cases r <;> rfl

/-! ### `setHL` -/

@[simp] theorem State.setHL_a (s : State) (v : Word) :
    (s.setHL v).a = s.a := rfl

@[simp] theorem State.setHL_b (s : State) (v : Word) :
    (s.setHL v).b = s.b := rfl

@[simp] theorem State.setHL_c (s : State) (v : Word) :
    (s.setHL v).c = s.c := rfl

@[simp] theorem State.setHL_d (s : State) (v : Word) :
    (s.setHL v).d = s.d := rfl

@[simp] theorem State.setHL_e (s : State) (v : Word) :
    (s.setHL v).e = s.e := rfl

@[simp] theorem State.setHL_h (s : State) (v : Word) :
    (s.setHL v).h = highByte v := rfl

@[simp] theorem State.setHL_l (s : State) (v : Word) :
    (s.setHL v).l = lowByte v := rfl

@[simp] theorem State.setHL_f (s : State) (v : Word) :
    (s.setHL v).f = s.f := rfl

@[simp] theorem State.setHL_sp (s : State) (v : Word) :
    (s.setHL v).sp = s.sp := rfl

@[simp] theorem State.setHL_pc (s : State) (v : Word) :
    (s.setHL v).pc = s.pc := rfl

@[simp] theorem State.setHL_run (s : State) (v : Word) :
    (s.setHL v).run = s.run := rfl

@[simp] theorem State.setHL_ieReg (s : State) (v : Word) :
    (s.setHL v).ieReg = s.ieReg := rfl

@[simp] theorem State.setHL_ifReg (s : State) (v : Word) :
    (s.setHL v).ifReg = s.ifReg := rfl

@[simp] theorem State.setHL_ime (s : State) (v : Word) :
    (s.setHL v).ime = s.ime := rfl

@[simp] theorem State.setHL_eiDelay (s : State) (v : Word) :
    (s.setHL v).eiDelay = s.eiDelay := rfl

@[simp] theorem State.setHL_haltRepeat (s : State) (v : Word) :
    (s.setHL v).haltRepeat = s.haltRepeat := rfl

@[simp] theorem State.setHL_cart (s : State) (v : Word) :
    (s.setHL v).cart = s.cart := rfl

@[simp] theorem State.setHL_bank (s : State) (v : Word) :
    (s.setHL v).bank = s.bank := rfl

@[simp] theorem State.setHL_mem (s : State) (v : Word) :
    (s.setHL v).mem = s.mem := rfl

@[simp] theorem State.setHL_io (s : State) (v : Word) :
    (s.setHL v).io = s.io := rfl

@[simp] theorem State.setHL_haltBug (s : State) (v : Word) :
    (s.setHL v).haltBug = s.haltBug := rfl

@[simp] theorem State.setHL_start (s : State) (v : Word) :
    (s.setHL v).start = s.start := rfl

@[simp] theorem State.setHL_report (s : State) (v : Word) :
    (s.setHL v).report = s.report := rfl

@[simp] theorem State.read_setHL (s : State) (v : Word) (x : Word) :
    (s.setHL v).read x = s.read x := rfl

/-! ### `setPair` -/

@[simp] theorem State.setPair_a (s : State) (p : RegPair) (v : Word) :
    (s.setPair p v).a = s.a := by cases p <;> rfl

@[simp] theorem State.setPair_f (s : State) (p : RegPair) (v : Word) :
    (s.setPair p v).f = s.f := by cases p <;> rfl

@[simp] theorem State.setPair_pc (s : State) (p : RegPair) (v : Word) :
    (s.setPair p v).pc = s.pc := by cases p <;> rfl

@[simp] theorem State.setPair_run (s : State) (p : RegPair) (v : Word) :
    (s.setPair p v).run = s.run := by cases p <;> rfl

@[simp] theorem State.setPair_ieReg (s : State) (p : RegPair) (v : Word) :
    (s.setPair p v).ieReg = s.ieReg := by cases p <;> rfl

@[simp] theorem State.setPair_ifReg (s : State) (p : RegPair) (v : Word) :
    (s.setPair p v).ifReg = s.ifReg := by cases p <;> rfl

@[simp] theorem State.setPair_ime (s : State) (p : RegPair) (v : Word) :
    (s.setPair p v).ime = s.ime := by cases p <;> rfl

@[simp] theorem State.setPair_eiDelay (s : State) (p : RegPair) (v : Word) :
    (s.setPair p v).eiDelay = s.eiDelay := by cases p <;> rfl

@[simp] theorem State.setPair_haltRepeat (s : State) (p : RegPair) (v : Word) :
    (s.setPair p v).haltRepeat = s.haltRepeat := by cases p <;> rfl

@[simp] theorem State.setPair_cart (s : State) (p : RegPair) (v : Word) :
    (s.setPair p v).cart = s.cart := by cases p <;> rfl

@[simp] theorem State.setPair_bank (s : State) (p : RegPair) (v : Word) :
    (s.setPair p v).bank = s.bank := by cases p <;> rfl

@[simp] theorem State.setPair_mem (s : State) (p : RegPair) (v : Word) :
    (s.setPair p v).mem = s.mem := by cases p <;> rfl

@[simp] theorem State.setPair_io (s : State) (p : RegPair) (v : Word) :
    (s.setPair p v).io = s.io := by cases p <;> rfl

@[simp] theorem State.setPair_haltBug (s : State) (p : RegPair) (v : Word) :
    (s.setPair p v).haltBug = s.haltBug := by cases p <;> rfl

@[simp] theorem State.setPair_start (s : State) (p : RegPair) (v : Word) :
    (s.setPair p v).start = s.start := by cases p <;> rfl

@[simp] theorem State.setPair_report (s : State) (p : RegPair) (v : Word) :
    (s.setPair p v).report = s.report := by cases p <;> rfl

@[simp] theorem State.read_setPair (s : State) (p : RegPair) (v : Word) (x : Word) :
    (s.setPair p v).read x = s.read x := by cases p <;> rfl

/-! ### `setStackPair` -/

@[simp] theorem State.setStackPair_sp (s : State) (p : StackPair) (v : Word) :
    (s.setStackPair p v).sp = s.sp := by cases p <;> rfl

@[simp] theorem State.setStackPair_pc (s : State) (p : StackPair) (v : Word) :
    (s.setStackPair p v).pc = s.pc := by cases p <;> rfl

@[simp] theorem State.setStackPair_run (s : State) (p : StackPair) (v : Word) :
    (s.setStackPair p v).run = s.run := by cases p <;> rfl

@[simp] theorem State.setStackPair_ieReg (s : State) (p : StackPair) (v : Word) :
    (s.setStackPair p v).ieReg = s.ieReg := by cases p <;> rfl

@[simp] theorem State.setStackPair_ifReg (s : State) (p : StackPair) (v : Word) :
    (s.setStackPair p v).ifReg = s.ifReg := by cases p <;> rfl

@[simp] theorem State.setStackPair_ime (s : State) (p : StackPair) (v : Word) :
    (s.setStackPair p v).ime = s.ime := by cases p <;> rfl

@[simp] theorem State.setStackPair_eiDelay (s : State) (p : StackPair) (v : Word) :
    (s.setStackPair p v).eiDelay = s.eiDelay := by cases p <;> rfl

@[simp] theorem State.setStackPair_haltRepeat (s : State) (p : StackPair) (v : Word) :
    (s.setStackPair p v).haltRepeat = s.haltRepeat := by cases p <;> rfl

@[simp] theorem State.setStackPair_cart (s : State) (p : StackPair) (v : Word) :
    (s.setStackPair p v).cart = s.cart := by cases p <;> rfl

@[simp] theorem State.setStackPair_bank (s : State) (p : StackPair) (v : Word) :
    (s.setStackPair p v).bank = s.bank := by cases p <;> rfl

@[simp] theorem State.setStackPair_mem (s : State) (p : StackPair) (v : Word) :
    (s.setStackPair p v).mem = s.mem := by cases p <;> rfl

@[simp] theorem State.setStackPair_io (s : State) (p : StackPair) (v : Word) :
    (s.setStackPair p v).io = s.io := by cases p <;> rfl

@[simp] theorem State.setStackPair_haltBug (s : State) (p : StackPair) (v : Word) :
    (s.setStackPair p v).haltBug = s.haltBug := by cases p <;> rfl

@[simp] theorem State.setStackPair_start (s : State) (p : StackPair) (v : Word) :
    (s.setStackPair p v).start = s.start := by cases p <;> rfl

@[simp] theorem State.setStackPair_report (s : State) (p : StackPair) (v : Word) :
    (s.setStackPair p v).report = s.report := by cases p <;> rfl

@[simp] theorem State.read_setStackPair (s : State) (p : StackPair) (v : Word) (x : Word) :
    (s.setStackPair p v).read x = s.read x := by cases p <;> rfl

/-! ### `enterFault`, `uninitialized`, `illegal`, `reported` -/

@[simp] theorem State.enterFault_a (s : State) (r : Fault) :
    (s.enterFault r).a = s.a := rfl

@[simp] theorem State.enterFault_b (s : State) (r : Fault) :
    (s.enterFault r).b = s.b := rfl

@[simp] theorem State.enterFault_c (s : State) (r : Fault) :
    (s.enterFault r).c = s.c := rfl

@[simp] theorem State.enterFault_d (s : State) (r : Fault) :
    (s.enterFault r).d = s.d := rfl

@[simp] theorem State.enterFault_e (s : State) (r : Fault) :
    (s.enterFault r).e = s.e := rfl

@[simp] theorem State.enterFault_h (s : State) (r : Fault) :
    (s.enterFault r).h = s.h := rfl

@[simp] theorem State.enterFault_l (s : State) (r : Fault) :
    (s.enterFault r).l = s.l := rfl

@[simp] theorem State.enterFault_f (s : State) (r : Fault) :
    (s.enterFault r).f = s.f := rfl

@[simp] theorem State.enterFault_sp (s : State) (r : Fault) :
    (s.enterFault r).sp = s.sp := rfl

@[simp] theorem State.enterFault_pc (s : State) (r : Fault) :
    (s.enterFault r).pc = s.pc := rfl

@[simp] theorem State.enterFault_run (s : State) (r : Fault) :
    (s.enterFault r).run = .faulted r := rfl

@[simp] theorem State.enterFault_ieReg (s : State) (r : Fault) :
    (s.enterFault r).ieReg = s.ieReg := rfl

@[simp] theorem State.enterFault_ifReg (s : State) (r : Fault) :
    (s.enterFault r).ifReg = s.ifReg := rfl

@[simp] theorem State.enterFault_ime (s : State) (r : Fault) :
    (s.enterFault r).ime = s.ime := rfl

@[simp] theorem State.enterFault_eiDelay (s : State) (r : Fault) :
    (s.enterFault r).eiDelay = s.eiDelay := rfl

@[simp] theorem State.enterFault_haltRepeat (s : State) (r : Fault) :
    (s.enterFault r).haltRepeat = s.haltRepeat := rfl

@[simp] theorem State.enterFault_cart (s : State) (r : Fault) :
    (s.enterFault r).cart = s.cart := rfl

@[simp] theorem State.enterFault_bank (s : State) (r : Fault) :
    (s.enterFault r).bank = s.bank := rfl

@[simp] theorem State.enterFault_mem (s : State) (r : Fault) :
    (s.enterFault r).mem = s.mem := rfl

@[simp] theorem State.enterFault_io (s : State) (r : Fault) :
    (s.enterFault r).io = s.io := rfl

@[simp] theorem State.enterFault_haltBug (s : State) (r : Fault) :
    (s.enterFault r).haltBug = s.haltBug := rfl

@[simp] theorem State.enterFault_start (s : State) (r : Fault) :
    (s.enterFault r).start = s.start := rfl

@[simp] theorem State.enterFault_report (s : State) (r : Fault) :
    (s.enterFault r).report = s.report := rfl

@[simp] theorem State.uninitialized_a (s : State) (x : Word) :
    (s.uninitialized x).a = s.a := rfl

@[simp] theorem State.uninitialized_b (s : State) (x : Word) :
    (s.uninitialized x).b = s.b := rfl

@[simp] theorem State.uninitialized_c (s : State) (x : Word) :
    (s.uninitialized x).c = s.c := rfl

@[simp] theorem State.uninitialized_d (s : State) (x : Word) :
    (s.uninitialized x).d = s.d := rfl

@[simp] theorem State.uninitialized_e (s : State) (x : Word) :
    (s.uninitialized x).e = s.e := rfl

@[simp] theorem State.uninitialized_h (s : State) (x : Word) :
    (s.uninitialized x).h = s.h := rfl

@[simp] theorem State.uninitialized_l (s : State) (x : Word) :
    (s.uninitialized x).l = s.l := rfl

@[simp] theorem State.uninitialized_f (s : State) (x : Word) :
    (s.uninitialized x).f = s.f := rfl

@[simp] theorem State.uninitialized_sp (s : State) (x : Word) :
    (s.uninitialized x).sp = s.sp := rfl

@[simp] theorem State.uninitialized_pc (s : State) (x : Word) :
    (s.uninitialized x).pc = s.pc := rfl

@[simp] theorem State.uninitialized_run (s : State) (x : Word) :
    (s.uninitialized x).run = .faulted (.uninitializedRead x s.start) := rfl

@[simp] theorem State.uninitialized_ieReg (s : State) (x : Word) :
    (s.uninitialized x).ieReg = s.ieReg := rfl

@[simp] theorem State.uninitialized_ifReg (s : State) (x : Word) :
    (s.uninitialized x).ifReg = s.ifReg := rfl

@[simp] theorem State.uninitialized_ime (s : State) (x : Word) :
    (s.uninitialized x).ime = s.ime := rfl

@[simp] theorem State.uninitialized_eiDelay (s : State) (x : Word) :
    (s.uninitialized x).eiDelay = s.eiDelay := rfl

@[simp] theorem State.uninitialized_haltRepeat (s : State) (x : Word) :
    (s.uninitialized x).haltRepeat = s.haltRepeat := rfl

@[simp] theorem State.uninitialized_cart (s : State) (x : Word) :
    (s.uninitialized x).cart = s.cart := rfl

@[simp] theorem State.uninitialized_bank (s : State) (x : Word) :
    (s.uninitialized x).bank = s.bank := rfl

@[simp] theorem State.uninitialized_mem (s : State) (x : Word) :
    (s.uninitialized x).mem = s.mem := rfl

@[simp] theorem State.uninitialized_io (s : State) (x : Word) :
    (s.uninitialized x).io = s.io := rfl

@[simp] theorem State.uninitialized_haltBug (s : State) (x : Word) :
    (s.uninitialized x).haltBug = s.haltBug := rfl

@[simp] theorem State.uninitialized_start (s : State) (x : Word) :
    (s.uninitialized x).start = s.start := rfl

@[simp] theorem State.uninitialized_report (s : State) (x : Word) :
    (s.uninitialized x).report = s.report := rfl

@[simp] theorem State.illegal_a (s : State) (op : Byte) :
    (s.illegal op).a = s.a := rfl

@[simp] theorem State.illegal_b (s : State) (op : Byte) :
    (s.illegal op).b = s.b := rfl

@[simp] theorem State.illegal_c (s : State) (op : Byte) :
    (s.illegal op).c = s.c := rfl

@[simp] theorem State.illegal_d (s : State) (op : Byte) :
    (s.illegal op).d = s.d := rfl

@[simp] theorem State.illegal_e (s : State) (op : Byte) :
    (s.illegal op).e = s.e := rfl

@[simp] theorem State.illegal_h (s : State) (op : Byte) :
    (s.illegal op).h = s.h := rfl

@[simp] theorem State.illegal_l (s : State) (op : Byte) :
    (s.illegal op).l = s.l := rfl

@[simp] theorem State.illegal_f (s : State) (op : Byte) :
    (s.illegal op).f = s.f := rfl

@[simp] theorem State.illegal_sp (s : State) (op : Byte) :
    (s.illegal op).sp = s.sp := rfl

@[simp] theorem State.illegal_pc (s : State) (op : Byte) :
    (s.illegal op).pc = s.start := rfl

@[simp] theorem State.illegal_run (s : State) (op : Byte) :
    (s.illegal op).run = .faulted (.illegalOpcode s.start op) := rfl

@[simp] theorem State.illegal_ieReg (s : State) (op : Byte) :
    (s.illegal op).ieReg = s.ieReg := rfl

@[simp] theorem State.illegal_ifReg (s : State) (op : Byte) :
    (s.illegal op).ifReg = s.ifReg := rfl

@[simp] theorem State.illegal_ime (s : State) (op : Byte) :
    (s.illegal op).ime = s.ime := rfl

@[simp] theorem State.illegal_eiDelay (s : State) (op : Byte) :
    (s.illegal op).eiDelay = s.eiDelay := rfl

@[simp] theorem State.illegal_haltRepeat (s : State) (op : Byte) :
    (s.illegal op).haltRepeat = s.haltRepeat := rfl

@[simp] theorem State.illegal_cart (s : State) (op : Byte) :
    (s.illegal op).cart = s.cart := rfl

@[simp] theorem State.illegal_bank (s : State) (op : Byte) :
    (s.illegal op).bank = s.bank := rfl

@[simp] theorem State.illegal_mem (s : State) (op : Byte) :
    (s.illegal op).mem = s.mem := rfl

@[simp] theorem State.illegal_io (s : State) (op : Byte) :
    (s.illegal op).io = s.io := rfl

@[simp] theorem State.illegal_haltBug (s : State) (op : Byte) :
    (s.illegal op).haltBug = s.haltBug := rfl

@[simp] theorem State.illegal_start (s : State) (op : Byte) :
    (s.illegal op).start = s.start := rfl

@[simp] theorem State.illegal_report (s : State) (op : Byte) :
    (s.illegal op).report = s.report := rfl

@[simp] theorem State.reported_a (s : State) (r : StepResult) :
    (s.reported r).a = s.a := rfl

@[simp] theorem State.reported_b (s : State) (r : StepResult) :
    (s.reported r).b = s.b := rfl

@[simp] theorem State.reported_c (s : State) (r : StepResult) :
    (s.reported r).c = s.c := rfl

@[simp] theorem State.reported_d (s : State) (r : StepResult) :
    (s.reported r).d = s.d := rfl

@[simp] theorem State.reported_e (s : State) (r : StepResult) :
    (s.reported r).e = s.e := rfl

@[simp] theorem State.reported_h (s : State) (r : StepResult) :
    (s.reported r).h = s.h := rfl

@[simp] theorem State.reported_l (s : State) (r : StepResult) :
    (s.reported r).l = s.l := rfl

@[simp] theorem State.reported_f (s : State) (r : StepResult) :
    (s.reported r).f = s.f := rfl

@[simp] theorem State.reported_sp (s : State) (r : StepResult) :
    (s.reported r).sp = s.sp := rfl

@[simp] theorem State.reported_pc (s : State) (r : StepResult) :
    (s.reported r).pc = s.pc := rfl

@[simp] theorem State.reported_run (s : State) (r : StepResult) :
    (s.reported r).run = s.run := rfl

@[simp] theorem State.reported_ieReg (s : State) (r : StepResult) :
    (s.reported r).ieReg = s.ieReg := rfl

@[simp] theorem State.reported_ifReg (s : State) (r : StepResult) :
    (s.reported r).ifReg = s.ifReg := rfl

@[simp] theorem State.reported_ime (s : State) (r : StepResult) :
    (s.reported r).ime = s.ime := rfl

@[simp] theorem State.reported_eiDelay (s : State) (r : StepResult) :
    (s.reported r).eiDelay = s.eiDelay := rfl

@[simp] theorem State.reported_haltRepeat (s : State) (r : StepResult) :
    (s.reported r).haltRepeat = s.haltRepeat := rfl

@[simp] theorem State.reported_cart (s : State) (r : StepResult) :
    (s.reported r).cart = s.cart := rfl

@[simp] theorem State.reported_bank (s : State) (r : StepResult) :
    (s.reported r).bank = s.bank := rfl

@[simp] theorem State.reported_mem (s : State) (r : StepResult) :
    (s.reported r).mem = s.mem := rfl

@[simp] theorem State.reported_io (s : State) (r : StepResult) :
    (s.reported r).io = s.io := rfl

@[simp] theorem State.reported_haltBug (s : State) (r : StepResult) :
    (s.reported r).haltBug = s.haltBug := rfl

@[simp] theorem State.reported_start (s : State) (r : StepResult) :
    (s.reported r).start = s.start := rfl

@[simp] theorem State.reported_report (s : State) (r : StepResult) :
    (s.reported r).report = r := rfl

@[simp] theorem State.read_enterFault (s : State) (r : Fault) (x : Word) :
    (s.enterFault r).read x = s.read x := rfl

@[simp] theorem State.read_uninitialized (s : State) (y x : Word) :
    (s.uninitialized y).read x = s.read x := rfl

@[simp] theorem State.read_illegal (s : State) (op : Byte) (x : Word) :
    (s.illegal op).read x = s.read x := rfl

@[simp] theorem State.read_reported (s : State) (r : StepResult) (x : Word) :
    (s.reported r).read x = s.read x := rfl

/-! ### `endOfInstruction` -/

/-- Everything the end of an instruction can do (R823). -/
theorem State.endOfInstruction_cases (s : State) :
    (s.eiDelay = 0 ∧ s.endOfInstruction = s) ∨
      (s.eiDelay = 1 ∧ s.endOfInstruction = { s with eiDelay := 0, ime := true }) ∨
      (s.eiDelay = 2 ∧ s.endOfInstruction = { s with eiDelay := 1 }) := by
  unfold State.endOfInstruction
  split
  · exact .inl ⟨‹_›, rfl⟩
  · exact .inr (.inl ⟨‹_›, rfl⟩)
  · exact .inr (.inr ⟨‹_›, rfl⟩)

@[simp] theorem State.endOfInstruction_a (s : State) :
    s.endOfInstruction.a = s.a := by
  unfold State.endOfInstruction; split <;> rfl

@[simp] theorem State.endOfInstruction_b (s : State) :
    s.endOfInstruction.b = s.b := by
  unfold State.endOfInstruction; split <;> rfl

@[simp] theorem State.endOfInstruction_c (s : State) :
    s.endOfInstruction.c = s.c := by
  unfold State.endOfInstruction; split <;> rfl

@[simp] theorem State.endOfInstruction_d (s : State) :
    s.endOfInstruction.d = s.d := by
  unfold State.endOfInstruction; split <;> rfl

@[simp] theorem State.endOfInstruction_e (s : State) :
    s.endOfInstruction.e = s.e := by
  unfold State.endOfInstruction; split <;> rfl

@[simp] theorem State.endOfInstruction_h (s : State) :
    s.endOfInstruction.h = s.h := by
  unfold State.endOfInstruction; split <;> rfl

@[simp] theorem State.endOfInstruction_l (s : State) :
    s.endOfInstruction.l = s.l := by
  unfold State.endOfInstruction; split <;> rfl

@[simp] theorem State.endOfInstruction_f (s : State) :
    s.endOfInstruction.f = s.f := by
  unfold State.endOfInstruction; split <;> rfl

@[simp] theorem State.endOfInstruction_sp (s : State) :
    s.endOfInstruction.sp = s.sp := by
  unfold State.endOfInstruction; split <;> rfl

@[simp] theorem State.endOfInstruction_pc (s : State) :
    s.endOfInstruction.pc = s.pc := by
  unfold State.endOfInstruction; split <;> rfl

@[simp] theorem State.endOfInstruction_run (s : State) :
    s.endOfInstruction.run = s.run := by
  unfold State.endOfInstruction; split <;> rfl

@[simp] theorem State.endOfInstruction_ieReg (s : State) :
    s.endOfInstruction.ieReg = s.ieReg := by
  unfold State.endOfInstruction; split <;> rfl

@[simp] theorem State.endOfInstruction_ifReg (s : State) :
    s.endOfInstruction.ifReg = s.ifReg := by
  unfold State.endOfInstruction; split <;> rfl

@[simp] theorem State.endOfInstruction_haltRepeat (s : State) :
    s.endOfInstruction.haltRepeat = s.haltRepeat := by
  unfold State.endOfInstruction; split <;> rfl

@[simp] theorem State.endOfInstruction_cart (s : State) :
    s.endOfInstruction.cart = s.cart := by
  unfold State.endOfInstruction; split <;> rfl

@[simp] theorem State.endOfInstruction_bank (s : State) :
    s.endOfInstruction.bank = s.bank := by
  unfold State.endOfInstruction; split <;> rfl

@[simp] theorem State.endOfInstruction_mem (s : State) :
    s.endOfInstruction.mem = s.mem := by
  unfold State.endOfInstruction; split <;> rfl

@[simp] theorem State.endOfInstruction_io (s : State) :
    s.endOfInstruction.io = s.io := by
  unfold State.endOfInstruction; split <;> rfl

@[simp] theorem State.endOfInstruction_haltBug (s : State) :
    s.endOfInstruction.haltBug = s.haltBug := by
  unfold State.endOfInstruction; split <;> rfl

@[simp] theorem State.endOfInstruction_start (s : State) :
    s.endOfInstruction.start = s.start := by
  unfold State.endOfInstruction; split <;> rfl

@[simp] theorem State.endOfInstruction_report (s : State) :
    s.endOfInstruction.report = s.report := by
  unfold State.endOfInstruction; split <;> rfl

@[simp] theorem State.read_endOfInstruction (s : State) (x : Word) :
    s.endOfInstruction.read x = s.read x := by
  unfold State.endOfInstruction; split <;> rfl

/-! ### `write` -/

/-- A write changes at most the cartridge, the banking registers, the byte arrays, the I/O bank, IF and
IE (R202). -/
theorem State.write_shape (s : State) (x : Word) (v : Byte) :
    ∃ cart bank mem io ifReg ieReg,
      s.write x v = { s with cart, bank, mem, io, ifReg, ieReg } := by
  unfold State.write State.writeROM State.writeRAM
  split
  · split
    · split
      · exact ⟨_, _, _, _, _, _, rfl⟩
      · exact ⟨_, _, _, _, _, _, rfl⟩
    · exact ⟨_, _, _, _, _, _, rfl⟩
  · split
    · exact ⟨_, _, _, _, _, _, rfl⟩
    · exact ⟨_, _, _, _, _, _, rfl⟩
  all_goals exact ⟨_, _, _, _, _, _, rfl⟩

@[simp] theorem State.write_a (s : State) (x : Word) (v : Byte) :
    (s.write x v).a = s.a := by
  obtain ⟨_, _, _, _, _, _, h⟩ := s.write_shape x v; rw [h]

@[simp] theorem State.write_b (s : State) (x : Word) (v : Byte) :
    (s.write x v).b = s.b := by
  obtain ⟨_, _, _, _, _, _, h⟩ := s.write_shape x v; rw [h]

@[simp] theorem State.write_c (s : State) (x : Word) (v : Byte) :
    (s.write x v).c = s.c := by
  obtain ⟨_, _, _, _, _, _, h⟩ := s.write_shape x v; rw [h]

@[simp] theorem State.write_d (s : State) (x : Word) (v : Byte) :
    (s.write x v).d = s.d := by
  obtain ⟨_, _, _, _, _, _, h⟩ := s.write_shape x v; rw [h]

@[simp] theorem State.write_e (s : State) (x : Word) (v : Byte) :
    (s.write x v).e = s.e := by
  obtain ⟨_, _, _, _, _, _, h⟩ := s.write_shape x v; rw [h]

@[simp] theorem State.write_h (s : State) (x : Word) (v : Byte) :
    (s.write x v).h = s.h := by
  obtain ⟨_, _, _, _, _, _, h⟩ := s.write_shape x v; rw [h]

@[simp] theorem State.write_l (s : State) (x : Word) (v : Byte) :
    (s.write x v).l = s.l := by
  obtain ⟨_, _, _, _, _, _, h⟩ := s.write_shape x v; rw [h]

@[simp] theorem State.write_f (s : State) (x : Word) (v : Byte) :
    (s.write x v).f = s.f := by
  obtain ⟨_, _, _, _, _, _, h⟩ := s.write_shape x v; rw [h]

@[simp] theorem State.write_sp (s : State) (x : Word) (v : Byte) :
    (s.write x v).sp = s.sp := by
  obtain ⟨_, _, _, _, _, _, h⟩ := s.write_shape x v; rw [h]

@[simp] theorem State.write_pc (s : State) (x : Word) (v : Byte) :
    (s.write x v).pc = s.pc := by
  obtain ⟨_, _, _, _, _, _, h⟩ := s.write_shape x v; rw [h]

@[simp] theorem State.write_run (s : State) (x : Word) (v : Byte) :
    (s.write x v).run = s.run := by
  obtain ⟨_, _, _, _, _, _, h⟩ := s.write_shape x v; rw [h]

@[simp] theorem State.write_ime (s : State) (x : Word) (v : Byte) :
    (s.write x v).ime = s.ime := by
  obtain ⟨_, _, _, _, _, _, h⟩ := s.write_shape x v; rw [h]

@[simp] theorem State.write_eiDelay (s : State) (x : Word) (v : Byte) :
    (s.write x v).eiDelay = s.eiDelay := by
  obtain ⟨_, _, _, _, _, _, h⟩ := s.write_shape x v; rw [h]

@[simp] theorem State.write_haltRepeat (s : State) (x : Word) (v : Byte) :
    (s.write x v).haltRepeat = s.haltRepeat := by
  obtain ⟨_, _, _, _, _, _, h⟩ := s.write_shape x v; rw [h]

@[simp] theorem State.write_haltBug (s : State) (x : Word) (v : Byte) :
    (s.write x v).haltBug = s.haltBug := by
  obtain ⟨_, _, _, _, _, _, h⟩ := s.write_shape x v; rw [h]

@[simp] theorem State.write_start (s : State) (x : Word) (v : Byte) :
    (s.write x v).start = s.start := by
  obtain ⟨_, _, _, _, _, _, h⟩ := s.write_shape x v; rw [h]

@[simp] theorem State.write_report (s : State) (x : Word) (v : Byte) :
    (s.write x v).report = s.report := by
  obtain ⟨_, _, _, _, _, _, h⟩ := s.write_shape x v; rw [h]

@[simp] theorem State.write_reg (s : State) (x : Word) (v : Byte) (r : Reg8) :
    (s.write x v).reg r = s.reg r := by
  cases r <;> simp [State.reg]

@[simp] theorem State.write_hl (s : State) (x : Word) (v : Byte) :
    (s.write x v).hl = s.hl := by
  simp [State.hl]

/-! ### `push16` -/

@[simp] theorem State.push16_a (s : State) (v : Word) :
    (s.push16 v).a = s.a := by
  simp [State.push16]

@[simp] theorem State.push16_b (s : State) (v : Word) :
    (s.push16 v).b = s.b := by
  simp [State.push16]

@[simp] theorem State.push16_c (s : State) (v : Word) :
    (s.push16 v).c = s.c := by
  simp [State.push16]

@[simp] theorem State.push16_d (s : State) (v : Word) :
    (s.push16 v).d = s.d := by
  simp [State.push16]

@[simp] theorem State.push16_e (s : State) (v : Word) :
    (s.push16 v).e = s.e := by
  simp [State.push16]

@[simp] theorem State.push16_h (s : State) (v : Word) :
    (s.push16 v).h = s.h := by
  simp [State.push16]

@[simp] theorem State.push16_l (s : State) (v : Word) :
    (s.push16 v).l = s.l := by
  simp [State.push16]

@[simp] theorem State.push16_f (s : State) (v : Word) :
    (s.push16 v).f = s.f := by
  simp [State.push16]

@[simp] theorem State.push16_sp (s : State) (v : Word) :
    (s.push16 v).sp = s.sp - 1 - 1 := by
  simp [State.push16]

@[simp] theorem State.push16_pc (s : State) (v : Word) :
    (s.push16 v).pc = s.pc := by
  simp [State.push16]

@[simp] theorem State.push16_run (s : State) (v : Word) :
    (s.push16 v).run = s.run := by
  simp [State.push16]

@[simp] theorem State.push16_ime (s : State) (v : Word) :
    (s.push16 v).ime = s.ime := by
  simp [State.push16]

@[simp] theorem State.push16_eiDelay (s : State) (v : Word) :
    (s.push16 v).eiDelay = s.eiDelay := by
  simp [State.push16]

@[simp] theorem State.push16_haltRepeat (s : State) (v : Word) :
    (s.push16 v).haltRepeat = s.haltRepeat := by
  simp [State.push16]

@[simp] theorem State.push16_haltBug (s : State) (v : Word) :
    (s.push16 v).haltBug = s.haltBug := by
  simp [State.push16]

@[simp] theorem State.push16_start (s : State) (v : Word) :
    (s.push16 v).start = s.start := by
  simp [State.push16]

@[simp] theorem State.push16_report (s : State) (v : Word) :
    (s.push16 v).report = s.report := by
  simp [State.push16]

end Sys2Proof.Machine
end

