-- ==== Sys2Proof/Laws/Ops.lean ====
section
/-! SUPPORT. One law per shared operation: everything a memory read, a pop, a dispatch, a fetch, the end of
an instruction and a step can do. Provers cite these instead of unfolding the operation. -/
namespace Sys2Proof.Machine

/-! ### A read looks at the memory side of the state only -/

/-- A read depends on the cartridge, the banking registers, the arrays, the I/O bank, IF and IE. -/
theorem State.read_congr {s t : State} (hc : t.cart = s.cart) (hb : t.bank = s.bank)
    (hm : t.mem = s.mem) (hio : t.io = s.io) (hif : t.ifReg = s.ifReg) (hie : t.ieReg = s.ieReg)
    (x : Word) : t.read x = s.read x := by
  have h1 : t.readROM x = s.readROM x := by unfold State.readROM; rw [hc, hb]
  have h2 : t.readRAM x = s.readRAM x := by unfold State.readRAM State.mappedRam; rw [hc, hb]
  unfold State.read
  rw [h1, h2, hm, hio, hif, hie]

@[simp] theorem State.read_sp (s : State) (v : Word) (x : Word) :
    ({ s with sp := v } : State).read x = s.read x := rfl

@[simp] theorem State.read_pc (s : State) (v : Word) (x : Word) :
    ({ s with pc := v } : State).read x = s.read x := rfl

@[simp] theorem State.read_f (s : State) (v : Flags) (x : Word) :
    ({ s with f := v } : State).read x = s.read x := rfl

@[simp] theorem State.read_a (s : State) (v : Byte) (x : Word) :
    ({ s with a := v } : State).read x = s.read x := rfl

@[simp] theorem State.read_start (s : State) (v : Word) (x : Word) :
    ({ s with start := v } : State).read x = s.read x := rfl

@[simp] theorem State.read_haltRepeat (s : State) (v : Bool) (x : Word) :
    ({ s with haltRepeat := v } : State).read x = s.read x := rfl

@[simp] theorem State.read_run (s : State) (v : RunState) (x : Word) :
    ({ s with run := v } : State).read x = s.read x := rfl

/-- Only the cartridge RAM and the arrays hold bytes a read can find unwritten (R206). -/
theorem State.read_eq_none {s : State} {x : Word} (h : s.read x = none) :
    region x = .cartRam ∨ region x = .array ∨ region x = .echo := by
  unfold State.read at h
  cases hr : region x <;> simp_all

/-! ### `memRead` and `pop16` -/

theorem State.memRead_of_some {s : State} {x : Word} {v : Byte} (h : s.read x = some v)
    (k : Byte → Result) : s.memRead x k = k v := by simp [State.memRead, h]

theorem State.memRead_of_none {s : State} {x : Word} (h : s.read x = none) (k : Byte → Result) :
    s.memRead x k = .next (s.uninitialized x) := by simp [State.memRead, h]

/-- A memory read goes on with the byte, or faults where nothing was written (R206). -/
theorem State.memRead_cases (s : State) (x : Word) (k : Byte → Result) :
    (∃ v, s.read x = some v ∧ s.memRead x k = k v) ∨
      (s.read x = none ∧ s.memRead x k = .next (s.uninitialized x)) := by
  cases h : s.read x with
  | some v => exact .inl ⟨v, rfl, s.memRead_of_some h k⟩
  | none => exact .inr ⟨rfl, s.memRead_of_none h k⟩

/-- A pop goes on with the word, or faults at its low or its high byte (R15, R206). -/
theorem State.pop16_cases (s : State) (k : Word → State → Result) :
    (∃ lo hi, s.read s.sp = some lo ∧ s.read (s.sp + 1) = some hi ∧
      s.pop16 k = k (wordOf hi lo) { s with sp := s.sp + 1 + 1 }) ∨
    (s.read s.sp = none ∧ s.pop16 k = .next (s.uninitialized s.sp)) ∨
    (∃ lo, s.read s.sp = some lo ∧ s.read (s.sp + 1) = none ∧
      s.pop16 k = .next ({ s with sp := s.sp + 1 }.uninitialized (s.sp + 1))) := by
  unfold State.pop16
  rcases s.memRead_cases s.sp _ with ⟨lo, hlo, h⟩ | ⟨hlo, h⟩
  · rw [h]
    rcases State.memRead_cases { s with sp := s.sp + 1 } (s.sp + 1) _ with ⟨hi, hhi, h⟩ | ⟨hhi, h⟩
    · exact .inl ⟨lo, hi, hlo, hhi, h⟩
    · exact .inr (.inr ⟨lo, hlo, hhi, h⟩)
  · exact .inr (.inl ⟨hlo, h⟩)

theorem State.pop16_of_some {s : State} {lo hi : Byte} (hlo : s.read s.sp = some lo)
    (hhi : s.read (s.sp + 1) = some hi) (k : Word → State → Result) :
    s.pop16 k = k (wordOf hi lo) { s with sp := s.sp + 1 + 1 } := by
  rcases s.pop16_cases k with ⟨lo', hi', h1, h2, h⟩ | ⟨h1, -⟩ | ⟨lo', h1, h2, -⟩
  · rw [hlo] at h1; rw [hhi] at h2; cases h1; cases h2; exact h
  · rw [hlo] at h1; cases h1
  · rw [hhi] at h2; cases h2

/-- When a memory read ends in a next state: the rest of the instruction does, or the fault is it. -/
theorem State.memRead_eq_next {s t : State} {x : Word} {k : Byte → Result} :
    s.memRead x k = .next t ↔
      (∃ v, s.read x = some v ∧ k v = .next t) ∨ (s.read x = none ∧ s.uninitialized x = t) := by
  unfold State.memRead
  cases s.read x <;> simp

/-- When a pop ends in a next state. -/
theorem State.pop16_eq_next {s t : State} {k : Word → State → Result} :
    s.pop16 k = .next t ↔
      (∃ lo hi, s.read s.sp = some lo ∧ s.read (s.sp + 1) = some hi ∧
        k (wordOf hi lo) { s with sp := s.sp + 1 + 1 } = .next t) ∨
      (s.read s.sp = none ∧ s.uninitialized s.sp = t) ∨
      (∃ lo, s.read s.sp = some lo ∧ s.read (s.sp + 1) = none ∧
        { s with sp := s.sp + 1 }.uninitialized (s.sp + 1) = t) := by
  unfold State.pop16
  rw [State.memRead_eq_next]
  simp only [State.memRead_eq_next, State.read_sp]
  grind

/-! ### `push16` and `dispatch` -/

/-- A write does not look at SP. -/
theorem State.write_with_sp (s : State) (y x : Word) (b : Byte) :
    ({ s with sp := y } : State).write x b = { s.write x b with sp := y } := by
  unfold State.write
  cases region x with
  | rom =>
    cases s
    rename_i cart _ _ _ _ _ _
    unfold State.writeROM
    cases cart with
    | none => rfl
    | some c => dsimp only; cases c.scheme <;> rfl
  | cartRam =>
    dsimp only
    unfold State.writeRAM
    rw [show State.mappedRam { s with sp := y } x = s.mappedRam x from rfl]
    cases s.mappedRam x <;> rfl
  | _ => rfl

/-- A push is two writes, the high byte first (R15). -/
theorem State.push16_eq (s : State) (v : Word) :
    s.push16 v =
      { (s.write (s.sp - 1) (highByte v)).write (s.sp - 1 - 1) (lowByte v) with
        sp := s.sp - 1 - 1 } := by
  simp only [State.push16, State.write_with_sp]

@[simp] theorem State.dispatch_pc (s : State) :
    s.dispatch.pc = vector (lowestSource s.pending) := rfl

@[simp] theorem State.dispatch_sp (s : State) : s.dispatch.sp = s.sp - 1 - 1 := by
  simp [State.dispatch]

@[simp] theorem State.dispatch_ime (s : State) : s.dispatch.ime = false := by
  simp [State.dispatch]

@[simp] theorem State.dispatch_eiDelay (s : State) : s.dispatch.eiDelay = 0 := by
  simp [State.dispatch]

@[simp] theorem State.dispatch_reg (s : State) (r : Reg8) : s.dispatch.reg r = s.reg r := by
  cases r <;> simp [State.dispatch, State.reg]

@[simp] theorem State.dispatch_f (s : State) : s.dispatch.f = s.f := by
  simp [State.dispatch]

@[simp] theorem State.dispatch_run (s : State) : s.dispatch.run = s.run := by
  simp [State.dispatch]

@[simp] theorem State.dispatch_haltRepeat (s : State) : s.dispatch.haltRepeat = s.haltRepeat := by
  simp [State.dispatch]

@[simp] theorem State.dispatch_haltBug (s : State) : s.dispatch.haltBug = s.haltBug := by
  simp [State.dispatch]

/-! ### Fetching -/

/-- A byte fetch reads at PC and moves PC, or faults there (R15). -/
theorem fetchByte_cases (s : State) :
    (∃ v, s.read s.pc = some v ∧ fetchByte s = .ok (v, { s with pc := s.pc + 1 })) ∨
      (s.read s.pc = none ∧ fetchByte s = .error (s.uninitialized s.pc)) := by
  unfold fetchByte
  cases s.read s.pc with
  | some v => exact .inl ⟨v, rfl, rfl⟩
  | none => exact .inr ⟨rfl, rfl⟩

/-- Fetching immediates moves PC by their number and changes nothing else; a fault leaves PC at the byte
that faulted. -/
theorem fetchBytes_cases (n : Nat) (s : State) :
    (∃ vs, vs.length = n ∧
      fetchBytes n s = .ok (vs, { s with pc := s.pc + BitVec.ofNat 16 n })) ∨
    (∃ p, s.read p = none ∧ fetchBytes n s = .error ({ s with pc := p }.uninitialized p)) := by
  induction n generalizing s with
  | zero => exact .inl ⟨[], rfl, by simp [fetchBytes]⟩
  | succ n ih =>
    rcases fetchByte_cases s with ⟨v, hv, h⟩ | ⟨hv, h⟩
    · rcases ih { s with pc := s.pc + 1 } with ⟨vs, hl, ih⟩ | ⟨p, hp, ih⟩
      · refine .inl ⟨v :: vs, by rw [List.length_cons, hl], ?_⟩
        have e : s.pc + BitVec.ofNat 16 (n + 1) = s.pc + 1 + BitVec.ofNat 16 n := by
          apply BitVec.eq_of_toNat_eq
          have one : (1 : Word).toNat = 1 := rfl
          simp only [BitVec.toNat_add, BitVec.toNat_ofNat, one]
          omega
        rw [fetchBytes, h]
        dsimp only
        rw [ih, e]
      · refine .inr ⟨p, hp, ?_⟩
        rw [fetchBytes, h]
        dsimp only
        rw [ih]
    · exact .inr ⟨s.pc, hv, by rw [fetchBytes, h]⟩

/-- The opcode fetch: with `halt_repeat` set, PC stays and the latch is cleared (R820). -/
theorem fetchOpcode_cases (s : State) :
    (∃ v, s.read s.pc = some v ∧
      fetchOpcode s =
        .ok (v, { s with
          pc := if s.haltRepeat then s.pc else s.pc + 1
          haltRepeat := false })) ∨
      (s.read s.pc = none ∧ fetchOpcode s = .error (s.uninitialized s.pc)) := by
  unfold fetchOpcode fetchByte
  cases s.read s.pc with
  | none => exact .inr ⟨rfl, by dsimp only; split <;> rfl⟩
  | some v =>
    refine .inl ⟨v, rfl, ?_⟩
    cases s
    rename_i haltRepeat _ _ _ _ _ _ _
    cases haltRepeat <;> rfl

/-! ### The end of an instruction -/

theorem finish_of_faulted {s : State} {r : Fault} (h : s.run = .faulted r) (n : Nat) :
    finish n s = s.reported (.fault r) := by simp [finish, h]

theorem finish_of_not_faulted {s : State} (h : ∀ r, s.run ≠ .faulted r) (n : Nat) :
    finish n s = s.endOfInstruction.reported (.executed n) := by
  unfold finish
  split
  · exact absurd ‹_› (h _)
  · rfl

/-- Whatever the end of an instruction does: it reports, and it may count the delayed enable down. -/
theorem finish_shape (n : Nat) (s : State) :
    ∃ ime d r, finish n s = { s with ime := ime, eiDelay := d, report := r } := by
  unfold finish
  split
  · exact ⟨s.ime, s.eiDelay, _, rfl⟩
  · unfold State.endOfInstruction
    split <;> exact ⟨_, _, _, rfl⟩

/-! ### A step -/

/-- The state in which arbitration happens: Halted has become Running (R820, R821). -/
theorem sequencerStep_cases {s : State} {o : Result} (h : sequencerStep s = o) :
    o = .next (s.reported .noStep) ∨ o = .next (s.reported .idle) ∨
    (∃ w, w = { s with run := .running } ∧ s.cart ≠ none ∧
      ((w.takesInterrupt = true ∧
          o = .next (w.dispatch.reported (.serviced (vector w.source) dispatchCycles))) ∨
        (w.takesInterrupt = false ∧ o = executeNext w))) := by
  unfold sequencerStep at h
  split at h
  · exact .inl h.symm
  · rename_i c hc
    have hc' : s.cart ≠ none := by rw [hc]; simp
    have run : ∀ w : State, runningStep w = o →
        ((w.takesInterrupt = true ∧
          o = .next (w.dispatch.reported (.serviced (vector w.source) dispatchCycles))) ∨
        (w.takesInterrupt = false ∧ o = executeNext w)) := by
      intro w hw
      unfold runningStep at hw
      split at hw
      · exact .inl ⟨‹_›, hw.symm⟩
      · rename_i hn; exact .inr ⟨by simpa using hn, hw.symm⟩
    unfold loadedStep at h
    split at h
    · exact .inl h.symm
    · exact .inr (.inl h.symm)
    · unfold haltedStep at h
      split at h
      · exact .inr (.inl h.symm)
      · exact .inr (.inr ⟨_, rfl, hc', run _ h⟩)
    · rename_i hr
      have : s = { s with run := .running } := by rw [← hr]
      exact .inr (.inr ⟨s, this, hc', run _ h⟩)

end Sys2Proof.Machine
end

