-- ==== Sys2Proof/Laws/Good.lean ====
section
/-! SUPPORT. What keeps the invariant `State.Good`: any change outside the fields it speaks of, a write
through the address decoder, a push, a dispatch and the end of an instruction. -/
namespace Sys2Proof.Machine

/-- The invariant looks at the arrays, the cartridge, the banking registers and the repeat latch only. -/
theorem State.Good.of_same {s t : State} (h : s.Good) (hm : t.mem = s.mem) (hc : t.cart = s.cart)
    (hk : t.bank = s.bank) (hb : t.haltBug = s.haltBug)
    (hr : t.haltRepeat = s.haltRepeat ∨ t.haltRepeat = false) : t.Good where
  mem_wf := hm ▸ h.mem_wf
  mem_backed := hm ▸ h.mem_backed
  cart_good := hc ▸ h.cart_good
  bank_nonzero := hk ▸ h.bank_nonzero
  repeat_clear := fun hf => hr.elim (fun e => e.trans (h.repeat_clear (hb ▸ hf))) id

/-- A byte stored in the arrays keeps the invariant. -/
theorem State.Good.with_mem {s : State} (h : s.Good) {a : Nat} (ha : backed a) (v : Byte) :
    ({ s with mem := s.mem.write a v } : State).Good where
  mem_wf := Memory.wf_write h.mem_wf a v
  mem_backed := Memory.forall_write h.mem_backed ha
  cart_good := h.cart_good
  bank_nonzero := h.bank_nonzero
  repeat_clear := h.repeat_clear

/-- A banking-register write keeps the low selector nonzero (R112, R221). -/
theorem Banking.write_nonzero {k : Banking} (h : k.romBankLow ≠ 0) (x : Word) (v : Byte) :
    (k.write x v).romBankLow ≠ 0 := by
  unfold Banking.write
  split
  · exact h
  · split
    · dsimp only
      split
      · decide
      · assumption
    · split <;> exact h

/-- A write to ROM space keeps the invariant. -/
theorem State.Good.writeROM {s : State} (h : s.Good) (x : Word) (v : Byte) :
    (s.writeROM x v).Good := by
  unfold State.writeROM
  split
  · split
    · exact h
    · exact ⟨h.mem_wf, h.mem_backed, h.cart_good, Banking.write_nonzero h.bank_nonzero x v,
        h.repeat_clear⟩
  · exact h

/-- A write to the cartridge RAM window keeps the invariant. -/
theorem State.Good.writeRAM {s : State} (h : s.Good) (x : Word) (v : Byte) :
    (s.writeRAM x v).Good := by
  cases hm : s.mappedRam x with
  | none => rw [State.writeRAM_of_none hm]; exact h
  | some p =>
    obtain ⟨c, r, off⟩ := p
    rw [State.writeRAM_of_some hm]
    obtain ⟨hc, -, hr, -, -, hoff⟩ := State.mappedRam_eq_some.1 hm
    have hg := h.cart_good c hc
    refine ⟨h.mem_wf, h.mem_backed, ?_, h.bank_nonzero, h.repeat_clear⟩
    rintro c' hc'
    cases hc'
    refine ⟨hg.1, hg.2.1, ?_⟩
    rintro r' hr'
    cases hr'
    obtain ⟨⟨hs, hw, hin⟩, hi⟩ := hg.2.2 r hr
    exact ⟨⟨hs, Memory.wf_write hw _ _, Memory.forall_write hin hoff⟩, hi⟩

/-- Every write keeps the invariant. -/
theorem State.Good.write {s : State} (h : s.Good) (x : Word) (v : Byte) : (s.write x v).Good := by
  unfold State.write
  split
  · exact h.writeROM x v
  · exact h.writeRAM x v
  · rename_i hr; exact h.with_mem ((region_eq_array x).1 hr) v
  · rename_i hr
    have := (region_eq_echo x).1 hr
    exact h.with_mem (by omega) v
  · exact h
  · exact h.of_same rfl rfl rfl rfl (.inl rfl)
  · exact h.of_same rfl rfl rfl rfl (.inl rfl)
  · exact h.of_same rfl rfl rfl rfl (.inl rfl)

/-- A push keeps the invariant. -/
theorem State.Good.push16 {s : State} (h : s.Good) (v : Word) : (s.push16 v).Good := by
  rw [State.push16_eq]
  exact ((h.write _ _).write _ _).of_same rfl rfl rfl rfl (.inl rfl)

/-- An interrupt dispatch keeps the invariant. -/
theorem State.Good.dispatch {s : State} (h : s.Good) : s.dispatch.Good := by
  have h1 : ({ s with
      ifReg := s.ifReg &&& ~~~(1#8 <<< lowestSource s.pending)
      ime := false
      eiDelay := 0 } : State).Good := h.of_same rfl rfl rfl rfl (.inl rfl)
  have h2 := h1.push16 s.pc
  unfold State.dispatch
  dsimp only
  generalize State.push16 _ _ = t at h2 ⊢
  exact h2.of_same rfl rfl rfl rfl (.inl rfl)

/-- The end of an instruction keeps the invariant. -/
theorem State.Good.finish {s : State} (h : s.Good) (n : Nat) : (finish n s).Good := by
  obtain ⟨ime, d, r, e⟩ := finish_shape n s
  rw [e]
  exact h.of_same rfl rfl rfl rfl (.inl rfl)

end Sys2Proof.Machine
end

