-- ==== Sys2Proof/Laws/PerInstr.lean ====
section
/-! SUPPORT. Laws stated per instruction: one lemma a constructor. -/
namespace Sys2Proof.Laws

/-- The encoding of a whole instruction is as long as its first byte says (`30_encoding.md` R303). -/
def EncodedLength.Statement (i : Instr) : Prop :=
  i.wellFormed = true → (encode i).length = instrLength ((encode i).headD 0)

theorem EncodedLength.nop : EncodedLength.Statement .nop := fun _ => rfl
theorem EncodedLength.ld_BC_nn (nn : Word) : EncodedLength.Statement (.ld_BC_nn nn) :=
  fun _ => show 3 = instrLength 0x01 from rfl
theorem EncodedLength.ld_atBC_A : EncodedLength.Statement .ld_atBC_A := fun _ => rfl
theorem EncodedLength.inc_BC : EncodedLength.Statement .inc_BC := fun _ => rfl
theorem EncodedLength.inc_B : EncodedLength.Statement .inc_B := fun _ => rfl
theorem EncodedLength.dec_B : EncodedLength.Statement .dec_B := fun _ => rfl
theorem EncodedLength.ld_B_n (n : Byte) : EncodedLength.Statement (.ld_B_n n) :=
  fun _ => show 2 = instrLength 0x06 from rfl
theorem EncodedLength.rlca : EncodedLength.Statement .rlca := fun _ => rfl
theorem EncodedLength.ld_atNn_SP (nn : Word) : EncodedLength.Statement (.ld_atNn_SP nn) :=
  fun _ => show 3 = instrLength 0x08 from rfl
theorem EncodedLength.add_HL_BC : EncodedLength.Statement .add_HL_BC := fun _ => rfl
theorem EncodedLength.ld_A_atBC : EncodedLength.Statement .ld_A_atBC := fun _ => rfl
theorem EncodedLength.dec_BC : EncodedLength.Statement .dec_BC := fun _ => rfl
theorem EncodedLength.inc_C : EncodedLength.Statement .inc_C := fun _ => rfl
theorem EncodedLength.dec_C : EncodedLength.Statement .dec_C := fun _ => rfl
theorem EncodedLength.ld_C_n (n : Byte) : EncodedLength.Statement (.ld_C_n n) :=
  fun _ => show 2 = instrLength 0x0E from rfl
theorem EncodedLength.rrca : EncodedLength.Statement .rrca := fun _ => rfl
theorem EncodedLength.stop (n : Byte) : EncodedLength.Statement (.stop n) :=
  fun _ => show 2 = instrLength 0x10 from rfl
theorem EncodedLength.ld_DE_nn (nn : Word) : EncodedLength.Statement (.ld_DE_nn nn) :=
  fun _ => show 3 = instrLength 0x11 from rfl
theorem EncodedLength.ld_atDE_A : EncodedLength.Statement .ld_atDE_A := fun _ => rfl
theorem EncodedLength.inc_DE : EncodedLength.Statement .inc_DE := fun _ => rfl
theorem EncodedLength.inc_D : EncodedLength.Statement .inc_D := fun _ => rfl
theorem EncodedLength.dec_D : EncodedLength.Statement .dec_D := fun _ => rfl
theorem EncodedLength.ld_D_n (n : Byte) : EncodedLength.Statement (.ld_D_n n) :=
  fun _ => show 2 = instrLength 0x16 from rfl
theorem EncodedLength.rla : EncodedLength.Statement .rla := fun _ => rfl
theorem EncodedLength.jr_e (e : Byte) : EncodedLength.Statement (.jr_e e) :=
  fun _ => show 2 = instrLength 0x18 from rfl
theorem EncodedLength.add_HL_DE : EncodedLength.Statement .add_HL_DE := fun _ => rfl
theorem EncodedLength.ld_A_atDE : EncodedLength.Statement .ld_A_atDE := fun _ => rfl
theorem EncodedLength.dec_DE : EncodedLength.Statement .dec_DE := fun _ => rfl
theorem EncodedLength.inc_E : EncodedLength.Statement .inc_E := fun _ => rfl
theorem EncodedLength.dec_E : EncodedLength.Statement .dec_E := fun _ => rfl
theorem EncodedLength.ld_E_n (n : Byte) : EncodedLength.Statement (.ld_E_n n) :=
  fun _ => show 2 = instrLength 0x1E from rfl
theorem EncodedLength.rra : EncodedLength.Statement .rra := fun _ => rfl
theorem EncodedLength.jr_NZ_e (e : Byte) : EncodedLength.Statement (.jr_NZ_e e) :=
  fun _ => show 2 = instrLength 0x20 from rfl
theorem EncodedLength.ld_HL_nn (nn : Word) : EncodedLength.Statement (.ld_HL_nn nn) :=
  fun _ => show 3 = instrLength 0x21 from rfl
theorem EncodedLength.ld_atHLinc_A : EncodedLength.Statement .ld_atHLinc_A := fun _ => rfl
theorem EncodedLength.inc_HL : EncodedLength.Statement .inc_HL := fun _ => rfl
theorem EncodedLength.inc_H : EncodedLength.Statement .inc_H := fun _ => rfl
theorem EncodedLength.dec_H : EncodedLength.Statement .dec_H := fun _ => rfl
theorem EncodedLength.ld_H_n (n : Byte) : EncodedLength.Statement (.ld_H_n n) :=
  fun _ => show 2 = instrLength 0x26 from rfl
theorem EncodedLength.daa : EncodedLength.Statement .daa := fun _ => rfl
theorem EncodedLength.jr_Z_e (e : Byte) : EncodedLength.Statement (.jr_Z_e e) :=
  fun _ => show 2 = instrLength 0x28 from rfl
theorem EncodedLength.add_HL_HL : EncodedLength.Statement .add_HL_HL := fun _ => rfl
theorem EncodedLength.ld_A_atHLinc : EncodedLength.Statement .ld_A_atHLinc := fun _ => rfl
theorem EncodedLength.dec_HL : EncodedLength.Statement .dec_HL := fun _ => rfl
theorem EncodedLength.inc_L : EncodedLength.Statement .inc_L := fun _ => rfl
theorem EncodedLength.dec_L : EncodedLength.Statement .dec_L := fun _ => rfl
theorem EncodedLength.ld_L_n (n : Byte) : EncodedLength.Statement (.ld_L_n n) :=
  fun _ => show 2 = instrLength 0x2E from rfl
theorem EncodedLength.cpl : EncodedLength.Statement .cpl := fun _ => rfl
theorem EncodedLength.jr_NC_e (e : Byte) : EncodedLength.Statement (.jr_NC_e e) :=
  fun _ => show 2 = instrLength 0x30 from rfl
theorem EncodedLength.ld_SP_nn (nn : Word) : EncodedLength.Statement (.ld_SP_nn nn) :=
  fun _ => show 3 = instrLength 0x31 from rfl
theorem EncodedLength.ld_atHLdec_A : EncodedLength.Statement .ld_atHLdec_A := fun _ => rfl
theorem EncodedLength.inc_SP : EncodedLength.Statement .inc_SP := fun _ => rfl
theorem EncodedLength.inc_atHL : EncodedLength.Statement .inc_atHL := fun _ => rfl
theorem EncodedLength.dec_atHL : EncodedLength.Statement .dec_atHL := fun _ => rfl
theorem EncodedLength.ld_atHL_n (n : Byte) : EncodedLength.Statement (.ld_atHL_n n) :=
  fun _ => show 2 = instrLength 0x36 from rfl
theorem EncodedLength.scf : EncodedLength.Statement .scf := fun _ => rfl
theorem EncodedLength.jr_C_e (e : Byte) : EncodedLength.Statement (.jr_C_e e) :=
  fun _ => show 2 = instrLength 0x38 from rfl
theorem EncodedLength.add_HL_SP : EncodedLength.Statement .add_HL_SP := fun _ => rfl
theorem EncodedLength.ld_A_atHLdec : EncodedLength.Statement .ld_A_atHLdec := fun _ => rfl
theorem EncodedLength.dec_SP : EncodedLength.Statement .dec_SP := fun _ => rfl
theorem EncodedLength.inc_A : EncodedLength.Statement .inc_A := fun _ => rfl
theorem EncodedLength.dec_A : EncodedLength.Statement .dec_A := fun _ => rfl
theorem EncodedLength.ld_A_n (n : Byte) : EncodedLength.Statement (.ld_A_n n) :=
  fun _ => show 2 = instrLength 0x3E from rfl
theorem EncodedLength.ccf : EncodedLength.Statement .ccf := fun _ => rfl
theorem EncodedLength.ld_B_B : EncodedLength.Statement .ld_B_B := fun _ => rfl
theorem EncodedLength.ld_B_C : EncodedLength.Statement .ld_B_C := fun _ => rfl
theorem EncodedLength.ld_B_D : EncodedLength.Statement .ld_B_D := fun _ => rfl
theorem EncodedLength.ld_B_E : EncodedLength.Statement .ld_B_E := fun _ => rfl
theorem EncodedLength.ld_B_H : EncodedLength.Statement .ld_B_H := fun _ => rfl
theorem EncodedLength.ld_B_L : EncodedLength.Statement .ld_B_L := fun _ => rfl
theorem EncodedLength.ld_B_atHL : EncodedLength.Statement .ld_B_atHL := fun _ => rfl
theorem EncodedLength.ld_B_A : EncodedLength.Statement .ld_B_A := fun _ => rfl
theorem EncodedLength.ld_C_B : EncodedLength.Statement .ld_C_B := fun _ => rfl
theorem EncodedLength.ld_C_C : EncodedLength.Statement .ld_C_C := fun _ => rfl
theorem EncodedLength.ld_C_D : EncodedLength.Statement .ld_C_D := fun _ => rfl
theorem EncodedLength.ld_C_E : EncodedLength.Statement .ld_C_E := fun _ => rfl
theorem EncodedLength.ld_C_H : EncodedLength.Statement .ld_C_H := fun _ => rfl
theorem EncodedLength.ld_C_L : EncodedLength.Statement .ld_C_L := fun _ => rfl
theorem EncodedLength.ld_C_atHL : EncodedLength.Statement .ld_C_atHL := fun _ => rfl
theorem EncodedLength.ld_C_A : EncodedLength.Statement .ld_C_A := fun _ => rfl
theorem EncodedLength.ld_D_B : EncodedLength.Statement .ld_D_B := fun _ => rfl
theorem EncodedLength.ld_D_C : EncodedLength.Statement .ld_D_C := fun _ => rfl
theorem EncodedLength.ld_D_D : EncodedLength.Statement .ld_D_D := fun _ => rfl
theorem EncodedLength.ld_D_E : EncodedLength.Statement .ld_D_E := fun _ => rfl
theorem EncodedLength.ld_D_H : EncodedLength.Statement .ld_D_H := fun _ => rfl
theorem EncodedLength.ld_D_L : EncodedLength.Statement .ld_D_L := fun _ => rfl
theorem EncodedLength.ld_D_atHL : EncodedLength.Statement .ld_D_atHL := fun _ => rfl
theorem EncodedLength.ld_D_A : EncodedLength.Statement .ld_D_A := fun _ => rfl
theorem EncodedLength.ld_E_B : EncodedLength.Statement .ld_E_B := fun _ => rfl
theorem EncodedLength.ld_E_C : EncodedLength.Statement .ld_E_C := fun _ => rfl
theorem EncodedLength.ld_E_D : EncodedLength.Statement .ld_E_D := fun _ => rfl
theorem EncodedLength.ld_E_E : EncodedLength.Statement .ld_E_E := fun _ => rfl
theorem EncodedLength.ld_E_H : EncodedLength.Statement .ld_E_H := fun _ => rfl
theorem EncodedLength.ld_E_L : EncodedLength.Statement .ld_E_L := fun _ => rfl
theorem EncodedLength.ld_E_atHL : EncodedLength.Statement .ld_E_atHL := fun _ => rfl
theorem EncodedLength.ld_E_A : EncodedLength.Statement .ld_E_A := fun _ => rfl
theorem EncodedLength.ld_H_B : EncodedLength.Statement .ld_H_B := fun _ => rfl
theorem EncodedLength.ld_H_C : EncodedLength.Statement .ld_H_C := fun _ => rfl
theorem EncodedLength.ld_H_D : EncodedLength.Statement .ld_H_D := fun _ => rfl
theorem EncodedLength.ld_H_E : EncodedLength.Statement .ld_H_E := fun _ => rfl
theorem EncodedLength.ld_H_H : EncodedLength.Statement .ld_H_H := fun _ => rfl
theorem EncodedLength.ld_H_L : EncodedLength.Statement .ld_H_L := fun _ => rfl
theorem EncodedLength.ld_H_atHL : EncodedLength.Statement .ld_H_atHL := fun _ => rfl
theorem EncodedLength.ld_H_A : EncodedLength.Statement .ld_H_A := fun _ => rfl
theorem EncodedLength.ld_L_B : EncodedLength.Statement .ld_L_B := fun _ => rfl
theorem EncodedLength.ld_L_C : EncodedLength.Statement .ld_L_C := fun _ => rfl
theorem EncodedLength.ld_L_D : EncodedLength.Statement .ld_L_D := fun _ => rfl
theorem EncodedLength.ld_L_E : EncodedLength.Statement .ld_L_E := fun _ => rfl
theorem EncodedLength.ld_L_H : EncodedLength.Statement .ld_L_H := fun _ => rfl
theorem EncodedLength.ld_L_L : EncodedLength.Statement .ld_L_L := fun _ => rfl
theorem EncodedLength.ld_L_atHL : EncodedLength.Statement .ld_L_atHL := fun _ => rfl
theorem EncodedLength.ld_L_A : EncodedLength.Statement .ld_L_A := fun _ => rfl
theorem EncodedLength.ld_atHL_B : EncodedLength.Statement .ld_atHL_B := fun _ => rfl
theorem EncodedLength.ld_atHL_C : EncodedLength.Statement .ld_atHL_C := fun _ => rfl
theorem EncodedLength.ld_atHL_D : EncodedLength.Statement .ld_atHL_D := fun _ => rfl
theorem EncodedLength.ld_atHL_E : EncodedLength.Statement .ld_atHL_E := fun _ => rfl
theorem EncodedLength.ld_atHL_H : EncodedLength.Statement .ld_atHL_H := fun _ => rfl
theorem EncodedLength.ld_atHL_L : EncodedLength.Statement .ld_atHL_L := fun _ => rfl
theorem EncodedLength.halt : EncodedLength.Statement .halt := fun _ => rfl
theorem EncodedLength.ld_atHL_A : EncodedLength.Statement .ld_atHL_A := fun _ => rfl
theorem EncodedLength.ld_A_B : EncodedLength.Statement .ld_A_B := fun _ => rfl
theorem EncodedLength.ld_A_C : EncodedLength.Statement .ld_A_C := fun _ => rfl
theorem EncodedLength.ld_A_D : EncodedLength.Statement .ld_A_D := fun _ => rfl
theorem EncodedLength.ld_A_E : EncodedLength.Statement .ld_A_E := fun _ => rfl
theorem EncodedLength.ld_A_H : EncodedLength.Statement .ld_A_H := fun _ => rfl
theorem EncodedLength.ld_A_L : EncodedLength.Statement .ld_A_L := fun _ => rfl
theorem EncodedLength.ld_A_atHL : EncodedLength.Statement .ld_A_atHL := fun _ => rfl
theorem EncodedLength.ld_A_A : EncodedLength.Statement .ld_A_A := fun _ => rfl
theorem EncodedLength.add_A_B : EncodedLength.Statement .add_A_B := fun _ => rfl
theorem EncodedLength.add_A_C : EncodedLength.Statement .add_A_C := fun _ => rfl
theorem EncodedLength.add_A_D : EncodedLength.Statement .add_A_D := fun _ => rfl
theorem EncodedLength.add_A_E : EncodedLength.Statement .add_A_E := fun _ => rfl
theorem EncodedLength.add_A_H : EncodedLength.Statement .add_A_H := fun _ => rfl
theorem EncodedLength.add_A_L : EncodedLength.Statement .add_A_L := fun _ => rfl
theorem EncodedLength.add_A_atHL : EncodedLength.Statement .add_A_atHL := fun _ => rfl
theorem EncodedLength.add_A_A : EncodedLength.Statement .add_A_A := fun _ => rfl
theorem EncodedLength.adc_A_B : EncodedLength.Statement .adc_A_B := fun _ => rfl
theorem EncodedLength.adc_A_C : EncodedLength.Statement .adc_A_C := fun _ => rfl
theorem EncodedLength.adc_A_D : EncodedLength.Statement .adc_A_D := fun _ => rfl
theorem EncodedLength.adc_A_E : EncodedLength.Statement .adc_A_E := fun _ => rfl
theorem EncodedLength.adc_A_H : EncodedLength.Statement .adc_A_H := fun _ => rfl
theorem EncodedLength.adc_A_L : EncodedLength.Statement .adc_A_L := fun _ => rfl
theorem EncodedLength.adc_A_atHL : EncodedLength.Statement .adc_A_atHL := fun _ => rfl
theorem EncodedLength.adc_A_A : EncodedLength.Statement .adc_A_A := fun _ => rfl
theorem EncodedLength.sub_B : EncodedLength.Statement .sub_B := fun _ => rfl
theorem EncodedLength.sub_C : EncodedLength.Statement .sub_C := fun _ => rfl
theorem EncodedLength.sub_D : EncodedLength.Statement .sub_D := fun _ => rfl
theorem EncodedLength.sub_E : EncodedLength.Statement .sub_E := fun _ => rfl
theorem EncodedLength.sub_H : EncodedLength.Statement .sub_H := fun _ => rfl
theorem EncodedLength.sub_L : EncodedLength.Statement .sub_L := fun _ => rfl
theorem EncodedLength.sub_atHL : EncodedLength.Statement .sub_atHL := fun _ => rfl
theorem EncodedLength.sub_A : EncodedLength.Statement .sub_A := fun _ => rfl
theorem EncodedLength.sbc_A_B : EncodedLength.Statement .sbc_A_B := fun _ => rfl
theorem EncodedLength.sbc_A_C : EncodedLength.Statement .sbc_A_C := fun _ => rfl
theorem EncodedLength.sbc_A_D : EncodedLength.Statement .sbc_A_D := fun _ => rfl
theorem EncodedLength.sbc_A_E : EncodedLength.Statement .sbc_A_E := fun _ => rfl
theorem EncodedLength.sbc_A_H : EncodedLength.Statement .sbc_A_H := fun _ => rfl
theorem EncodedLength.sbc_A_L : EncodedLength.Statement .sbc_A_L := fun _ => rfl
theorem EncodedLength.sbc_A_atHL : EncodedLength.Statement .sbc_A_atHL := fun _ => rfl
theorem EncodedLength.sbc_A_A : EncodedLength.Statement .sbc_A_A := fun _ => rfl
theorem EncodedLength.and_B : EncodedLength.Statement .and_B := fun _ => rfl
theorem EncodedLength.and_C : EncodedLength.Statement .and_C := fun _ => rfl
theorem EncodedLength.and_D : EncodedLength.Statement .and_D := fun _ => rfl
theorem EncodedLength.and_E : EncodedLength.Statement .and_E := fun _ => rfl
theorem EncodedLength.and_H : EncodedLength.Statement .and_H := fun _ => rfl
theorem EncodedLength.and_L : EncodedLength.Statement .and_L := fun _ => rfl
theorem EncodedLength.and_atHL : EncodedLength.Statement .and_atHL := fun _ => rfl
theorem EncodedLength.and_A : EncodedLength.Statement .and_A := fun _ => rfl
theorem EncodedLength.xor_B : EncodedLength.Statement .xor_B := fun _ => rfl
theorem EncodedLength.xor_C : EncodedLength.Statement .xor_C := fun _ => rfl
theorem EncodedLength.xor_D : EncodedLength.Statement .xor_D := fun _ => rfl
theorem EncodedLength.xor_E : EncodedLength.Statement .xor_E := fun _ => rfl
theorem EncodedLength.xor_H : EncodedLength.Statement .xor_H := fun _ => rfl
theorem EncodedLength.xor_L : EncodedLength.Statement .xor_L := fun _ => rfl
theorem EncodedLength.xor_atHL : EncodedLength.Statement .xor_atHL := fun _ => rfl
theorem EncodedLength.xor_A : EncodedLength.Statement .xor_A := fun _ => rfl
theorem EncodedLength.or_B : EncodedLength.Statement .or_B := fun _ => rfl
theorem EncodedLength.or_C : EncodedLength.Statement .or_C := fun _ => rfl
theorem EncodedLength.or_D : EncodedLength.Statement .or_D := fun _ => rfl
theorem EncodedLength.or_E : EncodedLength.Statement .or_E := fun _ => rfl
theorem EncodedLength.or_H : EncodedLength.Statement .or_H := fun _ => rfl
theorem EncodedLength.or_L : EncodedLength.Statement .or_L := fun _ => rfl
theorem EncodedLength.or_atHL : EncodedLength.Statement .or_atHL := fun _ => rfl
theorem EncodedLength.or_A : EncodedLength.Statement .or_A := fun _ => rfl
theorem EncodedLength.cp_B : EncodedLength.Statement .cp_B := fun _ => rfl
theorem EncodedLength.cp_C : EncodedLength.Statement .cp_C := fun _ => rfl
theorem EncodedLength.cp_D : EncodedLength.Statement .cp_D := fun _ => rfl
theorem EncodedLength.cp_E : EncodedLength.Statement .cp_E := fun _ => rfl
theorem EncodedLength.cp_H : EncodedLength.Statement .cp_H := fun _ => rfl
theorem EncodedLength.cp_L : EncodedLength.Statement .cp_L := fun _ => rfl
theorem EncodedLength.cp_atHL : EncodedLength.Statement .cp_atHL := fun _ => rfl
theorem EncodedLength.cp_A : EncodedLength.Statement .cp_A := fun _ => rfl
theorem EncodedLength.ret_NZ : EncodedLength.Statement .ret_NZ := fun _ => rfl
theorem EncodedLength.pop_BC : EncodedLength.Statement .pop_BC := fun _ => rfl
theorem EncodedLength.jp_NZ_nn (nn : Word) : EncodedLength.Statement (.jp_NZ_nn nn) :=
  fun _ => show 3 = instrLength 0xC2 from rfl
theorem EncodedLength.jp_nn (nn : Word) : EncodedLength.Statement (.jp_nn nn) :=
  fun _ => show 3 = instrLength 0xC3 from rfl
theorem EncodedLength.call_NZ_nn (nn : Word) : EncodedLength.Statement (.call_NZ_nn nn) :=
  fun _ => show 3 = instrLength 0xC4 from rfl
theorem EncodedLength.push_BC : EncodedLength.Statement .push_BC := fun _ => rfl
theorem EncodedLength.add_A_n (n : Byte) : EncodedLength.Statement (.add_A_n n) :=
  fun _ => show 2 = instrLength 0xC6 from rfl
theorem EncodedLength.rst_00 : EncodedLength.Statement .rst_00 := fun _ => rfl
theorem EncodedLength.ret_Z : EncodedLength.Statement .ret_Z := fun _ => rfl
theorem EncodedLength.ret : EncodedLength.Statement .ret := fun _ => rfl
theorem EncodedLength.jp_Z_nn (nn : Word) : EncodedLength.Statement (.jp_Z_nn nn) :=
  fun _ => show 3 = instrLength 0xCA from rfl
theorem EncodedLength.prefixCb : EncodedLength.Statement .prefixCb := fun h => nomatch h
theorem EncodedLength.call_Z_nn (nn : Word) : EncodedLength.Statement (.call_Z_nn nn) :=
  fun _ => show 3 = instrLength 0xCC from rfl
theorem EncodedLength.call_nn (nn : Word) : EncodedLength.Statement (.call_nn nn) :=
  fun _ => show 3 = instrLength 0xCD from rfl
theorem EncodedLength.adc_A_n (n : Byte) : EncodedLength.Statement (.adc_A_n n) :=
  fun _ => show 2 = instrLength 0xCE from rfl
theorem EncodedLength.rst_08 : EncodedLength.Statement .rst_08 := fun _ => rfl
theorem EncodedLength.ret_NC : EncodedLength.Statement .ret_NC := fun _ => rfl
theorem EncodedLength.pop_DE : EncodedLength.Statement .pop_DE := fun _ => rfl
theorem EncodedLength.jp_NC_nn (nn : Word) : EncodedLength.Statement (.jp_NC_nn nn) :=
  fun _ => show 3 = instrLength 0xD2 from rfl
theorem EncodedLength.illegal_D3 : EncodedLength.Statement .illegal_D3 := fun _ => rfl
theorem EncodedLength.call_NC_nn (nn : Word) : EncodedLength.Statement (.call_NC_nn nn) :=
  fun _ => show 3 = instrLength 0xD4 from rfl
theorem EncodedLength.push_DE : EncodedLength.Statement .push_DE := fun _ => rfl
theorem EncodedLength.sub_n (n : Byte) : EncodedLength.Statement (.sub_n n) :=
  fun _ => show 2 = instrLength 0xD6 from rfl
theorem EncodedLength.rst_10 : EncodedLength.Statement .rst_10 := fun _ => rfl
theorem EncodedLength.ret_C : EncodedLength.Statement .ret_C := fun _ => rfl
theorem EncodedLength.reti : EncodedLength.Statement .reti := fun _ => rfl
theorem EncodedLength.jp_C_nn (nn : Word) : EncodedLength.Statement (.jp_C_nn nn) :=
  fun _ => show 3 = instrLength 0xDA from rfl
theorem EncodedLength.illegal_DB : EncodedLength.Statement .illegal_DB := fun _ => rfl
theorem EncodedLength.call_C_nn (nn : Word) : EncodedLength.Statement (.call_C_nn nn) :=
  fun _ => show 3 = instrLength 0xDC from rfl
theorem EncodedLength.illegal_DD : EncodedLength.Statement .illegal_DD := fun _ => rfl
theorem EncodedLength.sbc_A_n (n : Byte) : EncodedLength.Statement (.sbc_A_n n) :=
  fun _ => show 2 = instrLength 0xDE from rfl
theorem EncodedLength.rst_18 : EncodedLength.Statement .rst_18 := fun _ => rfl
theorem EncodedLength.ldh_atN_A (n : Byte) : EncodedLength.Statement (.ldh_atN_A n) :=
  fun _ => show 2 = instrLength 0xE0 from rfl
theorem EncodedLength.pop_HL : EncodedLength.Statement .pop_HL := fun _ => rfl
theorem EncodedLength.ld_atC_A : EncodedLength.Statement .ld_atC_A := fun _ => rfl
theorem EncodedLength.illegal_E3 : EncodedLength.Statement .illegal_E3 := fun _ => rfl
theorem EncodedLength.illegal_E4 : EncodedLength.Statement .illegal_E4 := fun _ => rfl
theorem EncodedLength.push_HL : EncodedLength.Statement .push_HL := fun _ => rfl
theorem EncodedLength.and_n (n : Byte) : EncodedLength.Statement (.and_n n) :=
  fun _ => show 2 = instrLength 0xE6 from rfl
theorem EncodedLength.rst_20 : EncodedLength.Statement .rst_20 := fun _ => rfl
theorem EncodedLength.add_SP_e (e : Byte) : EncodedLength.Statement (.add_SP_e e) :=
  fun _ => show 2 = instrLength 0xE8 from rfl
theorem EncodedLength.jp_HL : EncodedLength.Statement .jp_HL := fun _ => rfl
theorem EncodedLength.ld_atNn_A (nn : Word) : EncodedLength.Statement (.ld_atNn_A nn) :=
  fun _ => show 3 = instrLength 0xEA from rfl
theorem EncodedLength.illegal_EB : EncodedLength.Statement .illegal_EB := fun _ => rfl
theorem EncodedLength.illegal_EC : EncodedLength.Statement .illegal_EC := fun _ => rfl
theorem EncodedLength.illegal_ED : EncodedLength.Statement .illegal_ED := fun _ => rfl
theorem EncodedLength.xor_n (n : Byte) : EncodedLength.Statement (.xor_n n) :=
  fun _ => show 2 = instrLength 0xEE from rfl
theorem EncodedLength.rst_28 : EncodedLength.Statement .rst_28 := fun _ => rfl
theorem EncodedLength.ldh_A_atN (n : Byte) : EncodedLength.Statement (.ldh_A_atN n) :=
  fun _ => show 2 = instrLength 0xF0 from rfl
theorem EncodedLength.pop_AF : EncodedLength.Statement .pop_AF := fun _ => rfl
theorem EncodedLength.ld_A_atC : EncodedLength.Statement .ld_A_atC := fun _ => rfl
theorem EncodedLength.di : EncodedLength.Statement .di := fun _ => rfl
theorem EncodedLength.illegal_F4 : EncodedLength.Statement .illegal_F4 := fun _ => rfl
theorem EncodedLength.push_AF : EncodedLength.Statement .push_AF := fun _ => rfl
theorem EncodedLength.or_n (n : Byte) : EncodedLength.Statement (.or_n n) :=
  fun _ => show 2 = instrLength 0xF6 from rfl
theorem EncodedLength.rst_30 : EncodedLength.Statement .rst_30 := fun _ => rfl
theorem EncodedLength.ld_HL_SPe (e : Byte) : EncodedLength.Statement (.ld_HL_SPe e) :=
  fun _ => show 2 = instrLength 0xF8 from rfl
theorem EncodedLength.ld_SP_HL : EncodedLength.Statement .ld_SP_HL := fun _ => rfl
theorem EncodedLength.ld_A_atNn (nn : Word) : EncodedLength.Statement (.ld_A_atNn nn) :=
  fun _ => show 3 = instrLength 0xFA from rfl
theorem EncodedLength.ei : EncodedLength.Statement .ei := fun _ => rfl
theorem EncodedLength.illegal_FC : EncodedLength.Statement .illegal_FC := fun _ => rfl
theorem EncodedLength.illegal_FD : EncodedLength.Statement .illegal_FD := fun _ => rfl
theorem EncodedLength.cp_n (n : Byte) : EncodedLength.Statement (.cp_n n) :=
  fun _ => show 2 = instrLength 0xFE from rfl
theorem EncodedLength.rst_38 : EncodedLength.Statement .rst_38 := fun _ => rfl
theorem EncodedLength.rlc_B : EncodedLength.Statement .rlc_B := fun _ => rfl
theorem EncodedLength.rlc_C : EncodedLength.Statement .rlc_C := fun _ => rfl
theorem EncodedLength.rlc_D : EncodedLength.Statement .rlc_D := fun _ => rfl
theorem EncodedLength.rlc_E : EncodedLength.Statement .rlc_E := fun _ => rfl
theorem EncodedLength.rlc_H : EncodedLength.Statement .rlc_H := fun _ => rfl
theorem EncodedLength.rlc_L : EncodedLength.Statement .rlc_L := fun _ => rfl
theorem EncodedLength.rlc_atHL : EncodedLength.Statement .rlc_atHL := fun _ => rfl
theorem EncodedLength.rlc_A : EncodedLength.Statement .rlc_A := fun _ => rfl
theorem EncodedLength.rrc_B : EncodedLength.Statement .rrc_B := fun _ => rfl
theorem EncodedLength.rrc_C : EncodedLength.Statement .rrc_C := fun _ => rfl
theorem EncodedLength.rrc_D : EncodedLength.Statement .rrc_D := fun _ => rfl
theorem EncodedLength.rrc_E : EncodedLength.Statement .rrc_E := fun _ => rfl
theorem EncodedLength.rrc_H : EncodedLength.Statement .rrc_H := fun _ => rfl
theorem EncodedLength.rrc_L : EncodedLength.Statement .rrc_L := fun _ => rfl
theorem EncodedLength.rrc_atHL : EncodedLength.Statement .rrc_atHL := fun _ => rfl
theorem EncodedLength.rrc_A : EncodedLength.Statement .rrc_A := fun _ => rfl
theorem EncodedLength.rl_B : EncodedLength.Statement .rl_B := fun _ => rfl
theorem EncodedLength.rl_C : EncodedLength.Statement .rl_C := fun _ => rfl
theorem EncodedLength.rl_D : EncodedLength.Statement .rl_D := fun _ => rfl
theorem EncodedLength.rl_E : EncodedLength.Statement .rl_E := fun _ => rfl
theorem EncodedLength.rl_H : EncodedLength.Statement .rl_H := fun _ => rfl
theorem EncodedLength.rl_L : EncodedLength.Statement .rl_L := fun _ => rfl
theorem EncodedLength.rl_atHL : EncodedLength.Statement .rl_atHL := fun _ => rfl
theorem EncodedLength.rl_A : EncodedLength.Statement .rl_A := fun _ => rfl
theorem EncodedLength.rr_B : EncodedLength.Statement .rr_B := fun _ => rfl
theorem EncodedLength.rr_C : EncodedLength.Statement .rr_C := fun _ => rfl
theorem EncodedLength.rr_D : EncodedLength.Statement .rr_D := fun _ => rfl
theorem EncodedLength.rr_E : EncodedLength.Statement .rr_E := fun _ => rfl
theorem EncodedLength.rr_H : EncodedLength.Statement .rr_H := fun _ => rfl
theorem EncodedLength.rr_L : EncodedLength.Statement .rr_L := fun _ => rfl
theorem EncodedLength.rr_atHL : EncodedLength.Statement .rr_atHL := fun _ => rfl
theorem EncodedLength.rr_A : EncodedLength.Statement .rr_A := fun _ => rfl
theorem EncodedLength.sla_B : EncodedLength.Statement .sla_B := fun _ => rfl
theorem EncodedLength.sla_C : EncodedLength.Statement .sla_C := fun _ => rfl
theorem EncodedLength.sla_D : EncodedLength.Statement .sla_D := fun _ => rfl
theorem EncodedLength.sla_E : EncodedLength.Statement .sla_E := fun _ => rfl
theorem EncodedLength.sla_H : EncodedLength.Statement .sla_H := fun _ => rfl
theorem EncodedLength.sla_L : EncodedLength.Statement .sla_L := fun _ => rfl
theorem EncodedLength.sla_atHL : EncodedLength.Statement .sla_atHL := fun _ => rfl
theorem EncodedLength.sla_A : EncodedLength.Statement .sla_A := fun _ => rfl
theorem EncodedLength.sra_B : EncodedLength.Statement .sra_B := fun _ => rfl
theorem EncodedLength.sra_C : EncodedLength.Statement .sra_C := fun _ => rfl
theorem EncodedLength.sra_D : EncodedLength.Statement .sra_D := fun _ => rfl
theorem EncodedLength.sra_E : EncodedLength.Statement .sra_E := fun _ => rfl
theorem EncodedLength.sra_H : EncodedLength.Statement .sra_H := fun _ => rfl
theorem EncodedLength.sra_L : EncodedLength.Statement .sra_L := fun _ => rfl
theorem EncodedLength.sra_atHL : EncodedLength.Statement .sra_atHL := fun _ => rfl
theorem EncodedLength.sra_A : EncodedLength.Statement .sra_A := fun _ => rfl
theorem EncodedLength.swap_B : EncodedLength.Statement .swap_B := fun _ => rfl
theorem EncodedLength.swap_C : EncodedLength.Statement .swap_C := fun _ => rfl
theorem EncodedLength.swap_D : EncodedLength.Statement .swap_D := fun _ => rfl
theorem EncodedLength.swap_E : EncodedLength.Statement .swap_E := fun _ => rfl
theorem EncodedLength.swap_H : EncodedLength.Statement .swap_H := fun _ => rfl
theorem EncodedLength.swap_L : EncodedLength.Statement .swap_L := fun _ => rfl
theorem EncodedLength.swap_atHL : EncodedLength.Statement .swap_atHL := fun _ => rfl
theorem EncodedLength.swap_A : EncodedLength.Statement .swap_A := fun _ => rfl
theorem EncodedLength.srl_B : EncodedLength.Statement .srl_B := fun _ => rfl
theorem EncodedLength.srl_C : EncodedLength.Statement .srl_C := fun _ => rfl
theorem EncodedLength.srl_D : EncodedLength.Statement .srl_D := fun _ => rfl
theorem EncodedLength.srl_E : EncodedLength.Statement .srl_E := fun _ => rfl
theorem EncodedLength.srl_H : EncodedLength.Statement .srl_H := fun _ => rfl
theorem EncodedLength.srl_L : EncodedLength.Statement .srl_L := fun _ => rfl
theorem EncodedLength.srl_atHL : EncodedLength.Statement .srl_atHL := fun _ => rfl
theorem EncodedLength.srl_A : EncodedLength.Statement .srl_A := fun _ => rfl
theorem EncodedLength.bit_0_B : EncodedLength.Statement .bit_0_B := fun _ => rfl
theorem EncodedLength.bit_0_C : EncodedLength.Statement .bit_0_C := fun _ => rfl
theorem EncodedLength.bit_0_D : EncodedLength.Statement .bit_0_D := fun _ => rfl
theorem EncodedLength.bit_0_E : EncodedLength.Statement .bit_0_E := fun _ => rfl
theorem EncodedLength.bit_0_H : EncodedLength.Statement .bit_0_H := fun _ => rfl
theorem EncodedLength.bit_0_L : EncodedLength.Statement .bit_0_L := fun _ => rfl
theorem EncodedLength.bit_0_atHL : EncodedLength.Statement .bit_0_atHL := fun _ => rfl
theorem EncodedLength.bit_0_A : EncodedLength.Statement .bit_0_A := fun _ => rfl
theorem EncodedLength.bit_1_B : EncodedLength.Statement .bit_1_B := fun _ => rfl
theorem EncodedLength.bit_1_C : EncodedLength.Statement .bit_1_C := fun _ => rfl
theorem EncodedLength.bit_1_D : EncodedLength.Statement .bit_1_D := fun _ => rfl
theorem EncodedLength.bit_1_E : EncodedLength.Statement .bit_1_E := fun _ => rfl
theorem EncodedLength.bit_1_H : EncodedLength.Statement .bit_1_H := fun _ => rfl
theorem EncodedLength.bit_1_L : EncodedLength.Statement .bit_1_L := fun _ => rfl
theorem EncodedLength.bit_1_atHL : EncodedLength.Statement .bit_1_atHL := fun _ => rfl
theorem EncodedLength.bit_1_A : EncodedLength.Statement .bit_1_A := fun _ => rfl
theorem EncodedLength.bit_2_B : EncodedLength.Statement .bit_2_B := fun _ => rfl
theorem EncodedLength.bit_2_C : EncodedLength.Statement .bit_2_C := fun _ => rfl
theorem EncodedLength.bit_2_D : EncodedLength.Statement .bit_2_D := fun _ => rfl
theorem EncodedLength.bit_2_E : EncodedLength.Statement .bit_2_E := fun _ => rfl
theorem EncodedLength.bit_2_H : EncodedLength.Statement .bit_2_H := fun _ => rfl
theorem EncodedLength.bit_2_L : EncodedLength.Statement .bit_2_L := fun _ => rfl
theorem EncodedLength.bit_2_atHL : EncodedLength.Statement .bit_2_atHL := fun _ => rfl
theorem EncodedLength.bit_2_A : EncodedLength.Statement .bit_2_A := fun _ => rfl
theorem EncodedLength.bit_3_B : EncodedLength.Statement .bit_3_B := fun _ => rfl
theorem EncodedLength.bit_3_C : EncodedLength.Statement .bit_3_C := fun _ => rfl
theorem EncodedLength.bit_3_D : EncodedLength.Statement .bit_3_D := fun _ => rfl
theorem EncodedLength.bit_3_E : EncodedLength.Statement .bit_3_E := fun _ => rfl
theorem EncodedLength.bit_3_H : EncodedLength.Statement .bit_3_H := fun _ => rfl
theorem EncodedLength.bit_3_L : EncodedLength.Statement .bit_3_L := fun _ => rfl
theorem EncodedLength.bit_3_atHL : EncodedLength.Statement .bit_3_atHL := fun _ => rfl
theorem EncodedLength.bit_3_A : EncodedLength.Statement .bit_3_A := fun _ => rfl
theorem EncodedLength.bit_4_B : EncodedLength.Statement .bit_4_B := fun _ => rfl
theorem EncodedLength.bit_4_C : EncodedLength.Statement .bit_4_C := fun _ => rfl
theorem EncodedLength.bit_4_D : EncodedLength.Statement .bit_4_D := fun _ => rfl
theorem EncodedLength.bit_4_E : EncodedLength.Statement .bit_4_E := fun _ => rfl
theorem EncodedLength.bit_4_H : EncodedLength.Statement .bit_4_H := fun _ => rfl
theorem EncodedLength.bit_4_L : EncodedLength.Statement .bit_4_L := fun _ => rfl
theorem EncodedLength.bit_4_atHL : EncodedLength.Statement .bit_4_atHL := fun _ => rfl
theorem EncodedLength.bit_4_A : EncodedLength.Statement .bit_4_A := fun _ => rfl
theorem EncodedLength.bit_5_B : EncodedLength.Statement .bit_5_B := fun _ => rfl
theorem EncodedLength.bit_5_C : EncodedLength.Statement .bit_5_C := fun _ => rfl
theorem EncodedLength.bit_5_D : EncodedLength.Statement .bit_5_D := fun _ => rfl
theorem EncodedLength.bit_5_E : EncodedLength.Statement .bit_5_E := fun _ => rfl
theorem EncodedLength.bit_5_H : EncodedLength.Statement .bit_5_H := fun _ => rfl
theorem EncodedLength.bit_5_L : EncodedLength.Statement .bit_5_L := fun _ => rfl
theorem EncodedLength.bit_5_atHL : EncodedLength.Statement .bit_5_atHL := fun _ => rfl
theorem EncodedLength.bit_5_A : EncodedLength.Statement .bit_5_A := fun _ => rfl
theorem EncodedLength.bit_6_B : EncodedLength.Statement .bit_6_B := fun _ => rfl
theorem EncodedLength.bit_6_C : EncodedLength.Statement .bit_6_C := fun _ => rfl
theorem EncodedLength.bit_6_D : EncodedLength.Statement .bit_6_D := fun _ => rfl
theorem EncodedLength.bit_6_E : EncodedLength.Statement .bit_6_E := fun _ => rfl
theorem EncodedLength.bit_6_H : EncodedLength.Statement .bit_6_H := fun _ => rfl
theorem EncodedLength.bit_6_L : EncodedLength.Statement .bit_6_L := fun _ => rfl
theorem EncodedLength.bit_6_atHL : EncodedLength.Statement .bit_6_atHL := fun _ => rfl
theorem EncodedLength.bit_6_A : EncodedLength.Statement .bit_6_A := fun _ => rfl
theorem EncodedLength.bit_7_B : EncodedLength.Statement .bit_7_B := fun _ => rfl
theorem EncodedLength.bit_7_C : EncodedLength.Statement .bit_7_C := fun _ => rfl
theorem EncodedLength.bit_7_D : EncodedLength.Statement .bit_7_D := fun _ => rfl
theorem EncodedLength.bit_7_E : EncodedLength.Statement .bit_7_E := fun _ => rfl
theorem EncodedLength.bit_7_H : EncodedLength.Statement .bit_7_H := fun _ => rfl
theorem EncodedLength.bit_7_L : EncodedLength.Statement .bit_7_L := fun _ => rfl
theorem EncodedLength.bit_7_atHL : EncodedLength.Statement .bit_7_atHL := fun _ => rfl
theorem EncodedLength.bit_7_A : EncodedLength.Statement .bit_7_A := fun _ => rfl
theorem EncodedLength.res_0_B : EncodedLength.Statement .res_0_B := fun _ => rfl
theorem EncodedLength.res_0_C : EncodedLength.Statement .res_0_C := fun _ => rfl
theorem EncodedLength.res_0_D : EncodedLength.Statement .res_0_D := fun _ => rfl
theorem EncodedLength.res_0_E : EncodedLength.Statement .res_0_E := fun _ => rfl
theorem EncodedLength.res_0_H : EncodedLength.Statement .res_0_H := fun _ => rfl
theorem EncodedLength.res_0_L : EncodedLength.Statement .res_0_L := fun _ => rfl
theorem EncodedLength.res_0_atHL : EncodedLength.Statement .res_0_atHL := fun _ => rfl
theorem EncodedLength.res_0_A : EncodedLength.Statement .res_0_A := fun _ => rfl
theorem EncodedLength.res_1_B : EncodedLength.Statement .res_1_B := fun _ => rfl
theorem EncodedLength.res_1_C : EncodedLength.Statement .res_1_C := fun _ => rfl
theorem EncodedLength.res_1_D : EncodedLength.Statement .res_1_D := fun _ => rfl
theorem EncodedLength.res_1_E : EncodedLength.Statement .res_1_E := fun _ => rfl
theorem EncodedLength.res_1_H : EncodedLength.Statement .res_1_H := fun _ => rfl
theorem EncodedLength.res_1_L : EncodedLength.Statement .res_1_L := fun _ => rfl
theorem EncodedLength.res_1_atHL : EncodedLength.Statement .res_1_atHL := fun _ => rfl
theorem EncodedLength.res_1_A : EncodedLength.Statement .res_1_A := fun _ => rfl
theorem EncodedLength.res_2_B : EncodedLength.Statement .res_2_B := fun _ => rfl
theorem EncodedLength.res_2_C : EncodedLength.Statement .res_2_C := fun _ => rfl
theorem EncodedLength.res_2_D : EncodedLength.Statement .res_2_D := fun _ => rfl
theorem EncodedLength.res_2_E : EncodedLength.Statement .res_2_E := fun _ => rfl
theorem EncodedLength.res_2_H : EncodedLength.Statement .res_2_H := fun _ => rfl
theorem EncodedLength.res_2_L : EncodedLength.Statement .res_2_L := fun _ => rfl
theorem EncodedLength.res_2_atHL : EncodedLength.Statement .res_2_atHL := fun _ => rfl
theorem EncodedLength.res_2_A : EncodedLength.Statement .res_2_A := fun _ => rfl
theorem EncodedLength.res_3_B : EncodedLength.Statement .res_3_B := fun _ => rfl
theorem EncodedLength.res_3_C : EncodedLength.Statement .res_3_C := fun _ => rfl
theorem EncodedLength.res_3_D : EncodedLength.Statement .res_3_D := fun _ => rfl
theorem EncodedLength.res_3_E : EncodedLength.Statement .res_3_E := fun _ => rfl
theorem EncodedLength.res_3_H : EncodedLength.Statement .res_3_H := fun _ => rfl
theorem EncodedLength.res_3_L : EncodedLength.Statement .res_3_L := fun _ => rfl
theorem EncodedLength.res_3_atHL : EncodedLength.Statement .res_3_atHL := fun _ => rfl
theorem EncodedLength.res_3_A : EncodedLength.Statement .res_3_A := fun _ => rfl
theorem EncodedLength.res_4_B : EncodedLength.Statement .res_4_B := fun _ => rfl
theorem EncodedLength.res_4_C : EncodedLength.Statement .res_4_C := fun _ => rfl
theorem EncodedLength.res_4_D : EncodedLength.Statement .res_4_D := fun _ => rfl
theorem EncodedLength.res_4_E : EncodedLength.Statement .res_4_E := fun _ => rfl
theorem EncodedLength.res_4_H : EncodedLength.Statement .res_4_H := fun _ => rfl
theorem EncodedLength.res_4_L : EncodedLength.Statement .res_4_L := fun _ => rfl
theorem EncodedLength.res_4_atHL : EncodedLength.Statement .res_4_atHL := fun _ => rfl
theorem EncodedLength.res_4_A : EncodedLength.Statement .res_4_A := fun _ => rfl
theorem EncodedLength.res_5_B : EncodedLength.Statement .res_5_B := fun _ => rfl
theorem EncodedLength.res_5_C : EncodedLength.Statement .res_5_C := fun _ => rfl
theorem EncodedLength.res_5_D : EncodedLength.Statement .res_5_D := fun _ => rfl
theorem EncodedLength.res_5_E : EncodedLength.Statement .res_5_E := fun _ => rfl
theorem EncodedLength.res_5_H : EncodedLength.Statement .res_5_H := fun _ => rfl
theorem EncodedLength.res_5_L : EncodedLength.Statement .res_5_L := fun _ => rfl
theorem EncodedLength.res_5_atHL : EncodedLength.Statement .res_5_atHL := fun _ => rfl
theorem EncodedLength.res_5_A : EncodedLength.Statement .res_5_A := fun _ => rfl
theorem EncodedLength.res_6_B : EncodedLength.Statement .res_6_B := fun _ => rfl
theorem EncodedLength.res_6_C : EncodedLength.Statement .res_6_C := fun _ => rfl
theorem EncodedLength.res_6_D : EncodedLength.Statement .res_6_D := fun _ => rfl
theorem EncodedLength.res_6_E : EncodedLength.Statement .res_6_E := fun _ => rfl
theorem EncodedLength.res_6_H : EncodedLength.Statement .res_6_H := fun _ => rfl
theorem EncodedLength.res_6_L : EncodedLength.Statement .res_6_L := fun _ => rfl
theorem EncodedLength.res_6_atHL : EncodedLength.Statement .res_6_atHL := fun _ => rfl
theorem EncodedLength.res_6_A : EncodedLength.Statement .res_6_A := fun _ => rfl
theorem EncodedLength.res_7_B : EncodedLength.Statement .res_7_B := fun _ => rfl
theorem EncodedLength.res_7_C : EncodedLength.Statement .res_7_C := fun _ => rfl
theorem EncodedLength.res_7_D : EncodedLength.Statement .res_7_D := fun _ => rfl
theorem EncodedLength.res_7_E : EncodedLength.Statement .res_7_E := fun _ => rfl
theorem EncodedLength.res_7_H : EncodedLength.Statement .res_7_H := fun _ => rfl
theorem EncodedLength.res_7_L : EncodedLength.Statement .res_7_L := fun _ => rfl
theorem EncodedLength.res_7_atHL : EncodedLength.Statement .res_7_atHL := fun _ => rfl
theorem EncodedLength.res_7_A : EncodedLength.Statement .res_7_A := fun _ => rfl
theorem EncodedLength.set_0_B : EncodedLength.Statement .set_0_B := fun _ => rfl
theorem EncodedLength.set_0_C : EncodedLength.Statement .set_0_C := fun _ => rfl
theorem EncodedLength.set_0_D : EncodedLength.Statement .set_0_D := fun _ => rfl
theorem EncodedLength.set_0_E : EncodedLength.Statement .set_0_E := fun _ => rfl
theorem EncodedLength.set_0_H : EncodedLength.Statement .set_0_H := fun _ => rfl
theorem EncodedLength.set_0_L : EncodedLength.Statement .set_0_L := fun _ => rfl
theorem EncodedLength.set_0_atHL : EncodedLength.Statement .set_0_atHL := fun _ => rfl
theorem EncodedLength.set_0_A : EncodedLength.Statement .set_0_A := fun _ => rfl
theorem EncodedLength.set_1_B : EncodedLength.Statement .set_1_B := fun _ => rfl
theorem EncodedLength.set_1_C : EncodedLength.Statement .set_1_C := fun _ => rfl
theorem EncodedLength.set_1_D : EncodedLength.Statement .set_1_D := fun _ => rfl
theorem EncodedLength.set_1_E : EncodedLength.Statement .set_1_E := fun _ => rfl
theorem EncodedLength.set_1_H : EncodedLength.Statement .set_1_H := fun _ => rfl
theorem EncodedLength.set_1_L : EncodedLength.Statement .set_1_L := fun _ => rfl
theorem EncodedLength.set_1_atHL : EncodedLength.Statement .set_1_atHL := fun _ => rfl
theorem EncodedLength.set_1_A : EncodedLength.Statement .set_1_A := fun _ => rfl
theorem EncodedLength.set_2_B : EncodedLength.Statement .set_2_B := fun _ => rfl
theorem EncodedLength.set_2_C : EncodedLength.Statement .set_2_C := fun _ => rfl
theorem EncodedLength.set_2_D : EncodedLength.Statement .set_2_D := fun _ => rfl
theorem EncodedLength.set_2_E : EncodedLength.Statement .set_2_E := fun _ => rfl
theorem EncodedLength.set_2_H : EncodedLength.Statement .set_2_H := fun _ => rfl
theorem EncodedLength.set_2_L : EncodedLength.Statement .set_2_L := fun _ => rfl
theorem EncodedLength.set_2_atHL : EncodedLength.Statement .set_2_atHL := fun _ => rfl
theorem EncodedLength.set_2_A : EncodedLength.Statement .set_2_A := fun _ => rfl
theorem EncodedLength.set_3_B : EncodedLength.Statement .set_3_B := fun _ => rfl
theorem EncodedLength.set_3_C : EncodedLength.Statement .set_3_C := fun _ => rfl
theorem EncodedLength.set_3_D : EncodedLength.Statement .set_3_D := fun _ => rfl
theorem EncodedLength.set_3_E : EncodedLength.Statement .set_3_E := fun _ => rfl
theorem EncodedLength.set_3_H : EncodedLength.Statement .set_3_H := fun _ => rfl
theorem EncodedLength.set_3_L : EncodedLength.Statement .set_3_L := fun _ => rfl
theorem EncodedLength.set_3_atHL : EncodedLength.Statement .set_3_atHL := fun _ => rfl
theorem EncodedLength.set_3_A : EncodedLength.Statement .set_3_A := fun _ => rfl
theorem EncodedLength.set_4_B : EncodedLength.Statement .set_4_B := fun _ => rfl
theorem EncodedLength.set_4_C : EncodedLength.Statement .set_4_C := fun _ => rfl
theorem EncodedLength.set_4_D : EncodedLength.Statement .set_4_D := fun _ => rfl
theorem EncodedLength.set_4_E : EncodedLength.Statement .set_4_E := fun _ => rfl
theorem EncodedLength.set_4_H : EncodedLength.Statement .set_4_H := fun _ => rfl
theorem EncodedLength.set_4_L : EncodedLength.Statement .set_4_L := fun _ => rfl
theorem EncodedLength.set_4_atHL : EncodedLength.Statement .set_4_atHL := fun _ => rfl
theorem EncodedLength.set_4_A : EncodedLength.Statement .set_4_A := fun _ => rfl
theorem EncodedLength.set_5_B : EncodedLength.Statement .set_5_B := fun _ => rfl
theorem EncodedLength.set_5_C : EncodedLength.Statement .set_5_C := fun _ => rfl
theorem EncodedLength.set_5_D : EncodedLength.Statement .set_5_D := fun _ => rfl
theorem EncodedLength.set_5_E : EncodedLength.Statement .set_5_E := fun _ => rfl
theorem EncodedLength.set_5_H : EncodedLength.Statement .set_5_H := fun _ => rfl
theorem EncodedLength.set_5_L : EncodedLength.Statement .set_5_L := fun _ => rfl
theorem EncodedLength.set_5_atHL : EncodedLength.Statement .set_5_atHL := fun _ => rfl
theorem EncodedLength.set_5_A : EncodedLength.Statement .set_5_A := fun _ => rfl
theorem EncodedLength.set_6_B : EncodedLength.Statement .set_6_B := fun _ => rfl
theorem EncodedLength.set_6_C : EncodedLength.Statement .set_6_C := fun _ => rfl
theorem EncodedLength.set_6_D : EncodedLength.Statement .set_6_D := fun _ => rfl
theorem EncodedLength.set_6_E : EncodedLength.Statement .set_6_E := fun _ => rfl
theorem EncodedLength.set_6_H : EncodedLength.Statement .set_6_H := fun _ => rfl
theorem EncodedLength.set_6_L : EncodedLength.Statement .set_6_L := fun _ => rfl
theorem EncodedLength.set_6_atHL : EncodedLength.Statement .set_6_atHL := fun _ => rfl
theorem EncodedLength.set_6_A : EncodedLength.Statement .set_6_A := fun _ => rfl
theorem EncodedLength.set_7_B : EncodedLength.Statement .set_7_B := fun _ => rfl
theorem EncodedLength.set_7_C : EncodedLength.Statement .set_7_C := fun _ => rfl
theorem EncodedLength.set_7_D : EncodedLength.Statement .set_7_D := fun _ => rfl
theorem EncodedLength.set_7_E : EncodedLength.Statement .set_7_E := fun _ => rfl
theorem EncodedLength.set_7_H : EncodedLength.Statement .set_7_H := fun _ => rfl
theorem EncodedLength.set_7_L : EncodedLength.Statement .set_7_L := fun _ => rfl
theorem EncodedLength.set_7_atHL : EncodedLength.Statement .set_7_atHL := fun _ => rfl
theorem EncodedLength.set_7_A : EncodedLength.Statement .set_7_A := fun _ => rfl

end Sys2Proof.Laws
end

