-- ==== Sys2Proof/Tests/Slice0.lean ====
section
/-! SUPPORT. The model's own tests. Decode tests: words written out from the encodings of the instruction
rules. Step tests: one step each, expected values from the examples of the rules and of
`spec/95_test_vectors.md`. Witnesses: for each obligation with hypotheses, states and operands that meet
them, clause by clause, at boundary values. -/
namespace Sys2Proof.Tests
open Sys2Proof.Machine Sys2Proof.Claims

/-! ## Well-formedness -/

/-- The one check: the lone escape byte is no whole instruction (R751), and it is refused. -/
theorem test_wf_escape_alone : Instr.wellFormed .prefixCb = false := by decide

theorem test_wf_halt : Instr.wellFormed .halt = true := by decide

/-! ## Decoding: words written out bit by bit from the rules -/

/-- R402: `00 yyy 110 nnnnnnnn` with y = 3. -/
theorem test_decode_ld_E_n : decode [0b00011110, 0x7F] = .ok (.ld_E_n 0x7F, []) := by rfl

/-- R403: `01 yyy 110` with y = 5. -/
theorem test_decode_ld_L_atHL : decode [0b01101110, 0xAA] = .ok (.ld_L_atHL, [0xAA]) := by rfl

/-- R404: `01 110 zzz` with z = 7. -/
theorem test_decode_ld_atHL_A : decode [0b01110111] = .ok (.ld_atHL_A, []) := by rfl

/-- R419: `00 111 010`. -/
theorem test_decode_ld_A_atHLdec : decode [0b00111010] = .ok (.ld_A_atHLdec, []) := by rfl

/-- R450: `00 pp0 001 llllllll hhhhhhhh` with p = 3; the low byte comes first. -/
theorem test_decode_ld_SP_nn : decode [0b00110001, 0xFE, 0x12] = .ok (.ld_SP_nn 0x12FE, []) := by rfl

/-- R453: `11 pp0 101` with p = 3. -/
theorem test_decode_push_AF : decode [0b11110101] = .ok (.push_AF, []) := by rfl

/-- R519: `10 011 zzz` with z = 4. -/
theorem test_decode_sbc_A_H : decode [0b10011100] = .ok (.sbc_A_H, []) := by rfl

/-- R527: `11 101 110 nnnnnnnn`. -/
theorem test_decode_xor_n : decode [0b11101110, 0x0F] = .ok (.xor_n 0x0F, []) := by rfl

/-- R538: `00 100 111`. -/
theorem test_decode_daa : decode [0b00100111] = .ok (.daa, []) := by rfl

/-- R552: `00 pp1 001` with p = 2. -/
theorem test_decode_add_HL_HL : decode [0b00101001] = .ok (.add_HL_HL, []) := by rfl

/-- R615: `11001011 00 101 zzz` with z = 4. -/
theorem test_decode_sra_H : decode [0b11001011, 0b00101100] = .ok (.sra_H, []) := by rfl

/-- R653: `11001011 10 bbb 110` with b = 3. -/
theorem test_decode_res_3_atHL : decode [0b11001011, 0b10011110] = .ok (.res_3_atHL, []) := by rfl

/-- R707: `11 0cc 100 llllllll hhhhhhhh` with cc = 2. -/
theorem test_decode_call_NC : decode [0b11010100, 0x00, 0x40] = .ok (.call_NC_nn 0x4000, []) := by rfl

/-- R711: `11 yyy 111` with y = 5. -/
theorem test_decode_rst_28 : decode [0b11101111] = .ok (.rst_28, []) := by rfl

/-- R753: `00 010 000 xxxxxxxx`. -/
theorem test_decode_stop : decode [0b00010000, 0x5A] = .ok (.stop 0x5A, []) := by rfl

/-- R330: 0xED is illegal. -/
theorem test_decode_illegal : decode [0b11101101] = .ok (.illegal_ED, []) := by rfl

/-- R303: a byte list shorter than its first byte asks for is rejected. -/
theorem test_decode_truncated : ∃ e, decode [0xC3, 0x50] = .error e := ⟨_, rfl⟩

/-- Table words: the extended rows in either byte order, and an operand row with no operand bits. -/
theorem test_table_words :
    decodeTableWord 16 0xCB2C = some .sra_H ∧ decodeTableWord 16 0x2CCB = some .sra_H ∧
      decodeTableWord 8 0x3E = some (.ld_A_n 0x00) ∧ decodeTableWord 8 0xCB = some .prefixCb := by
  decide

/-! ## States for the tests -/

/-- The reset state with a 32 KiB image of scheme None that holds `code` at 0x0100 and zero bytes
elsewhere (`spec/95_test_vectors.md` section 0). -/
def running (code : List Byte) : State :=
  { State.reset with
    ifReg := 0
    cart := some
      { scheme := .none
        rom := { size := 0x8000, cells := (cellsFrom 0x0100 code).filter fun p => p.2 != 0 }
        ram := none
        ramInit := [] } }

/-- The state after a step. -/
def after (s : State) : Option State :=
  match step s with
  | .next t => some t
  | _ => none

/-- A field of the state after a step. -/
def seen {α : Type} (f : State → α) (s : State) : Option α := (after s).map f

/-- A state with an MBC1 cartridge of 32 KiB of ROM and 8 KiB of RAM, RAM enabled. -/
def mbc1State : State :=
  { running [] with
    cart := some
      { scheme := .mbc1
        rom := { size := 0x8000, cells := [] }
        ram := some { size := 0x2000, cells := [(5, 0xAB)] }
        ramInit := [] }
    bank := { ramEnable := true, romBankLow := 1, bankHigh := 1, bankMode := .ramBanking } }

/-! ## One step, from the examples of the rules -/

/-- R401's example: `41` with B=0x12, C=0x34. -/
theorem test_ld_B_C :
    seen (fun t => (t.b, t.c, t.pc)) { running [0x41] with b := 0x12, c := 0x34 } =
      some (0x34, 0x34, 0x0101) := by decide

/-- R411's shape and R230: `EA 34 C1` stores A at 0xC134. -/
theorem test_ld_atNn_A :
    seen (fun t => (t.read 0xC134, t.pc)) (running [0xEA, 0x34, 0xC1]) =
      some (some 0x01, 0x0103) := by decide

/-- R412's example: `F0 0F` reads IF. -/
theorem test_ldh_A_IF :
    seen (fun t => t.a) { running [0xF0, 0x0F] with ifReg := 0x21 } = some 0x21 := by decide

/-- R418's corner: HL=0x0000 wraps to 0xFFFF. -/
theorem test_ld_atHLdec_wraps :
    seen (fun t => t.hl) { running [0x32] with h := 0, l := 0 } = some 0xFFFF := by decide

/-- R451's example: `08 00 C0` with SP=0xFFF8. -/
theorem test_ld_atNn_SP :
    seen (fun t => (t.read 0xC000, t.read 0xC001)) { running [0x08, 0x00, 0xC0] with sp := 0xFFF8 } =
      some (some 0xF8, some 0xFF) := by decide

/-- R453's example: `C5` with BC=0x1234. -/
theorem test_push_BC :
    seen (fun t => (t.read 0xFFFD, t.read 0xFFFC, t.sp)) { running [0xC5] with b := 0x12, c := 0x34 } =
      some (some 0x12, some 0x34, 0xFFFC) := by decide

/-- R455's example: the stack word 0x12FF gives A=0x12, F=0xF0. -/
theorem test_pop_AF :
    seen (fun t => (t.a, t.f.toByte, t.sp))
      { running [0xF1] with sp := 0xC000, mem := [(0xC000, 0xFF), (0xC001, 0x12)] } =
      some (0x12, 0xF0, 0xC002) := by decide

/-- R510's example. -/
theorem test_add_A_B :
    seen (fun t => (t.a, t.f.toByte)) { running [0x80] with a := 0x3A, b := 0xC6 } =
      some (0x00, 0xB0) := by decide

/-- R514's example: the carry in matters for both carries out. -/
theorem test_adc_A_atHL :
    seen (fun t => (t.a, t.f.toByte))
      { running [0x8E] with a := 0xE1, h := 0xC0, l := 0x00, mem := [(0xC000, 0x1E)] } =
      some (0x00, 0xB0) := by decide

/-- R519's corner: `SBC A,A` with fC=1. -/
theorem test_sbc_A_A : seen (fun t => (t.a, t.f.toByte)) (running [0x9F]) = some (0xFF, 0x70) := by decide

/-- R531's example: CP keeps A. -/
theorem test_cp_B :
    seen (fun t => (t.a, t.f.toByte)) { running [0xB8] with a := 0x3C, b := 0x2F } =
      some (0x3C, 0x60) := by decide

/-- R534's example: the carry is kept. -/
theorem test_inc_B :
    seen (fun t => (t.b, t.f.toByte)) { running [0x04] with b := 0x7F } = some (0x80, 0x30) := by decide

/-- R538's corner: A=0x9A with no flag. -/
theorem test_daa :
    seen (fun t => (t.a, t.f.toByte)) { running [0x27] with a := 0x9A, f := Flags.ofByte 0x00 } =
      some (0x00, 0x90) := by decide

/-- R552's example. -/
theorem test_add_HL_BC :
    seen (fun t => (t.hl, t.f.toByte))
      { running [0x09] with h := 0x8A, l := 0x23, b := 0x06, c := 0x05, f := Flags.ofByte 0x00 } =
      some (0x9028, 0x20) := by decide

/-- R555's corner: e = -1 with SP=0x0001. -/
theorem test_add_SP_e :
    seen (fun t => (t.sp, t.f.toByte)) { running [0xE8, 0xFF] with sp := 0x0001 } =
      some (0x0000, 0x30) := by decide

/-- R601's corner: Z is never set. -/
theorem test_rlca_zero : seen (fun t => (t.a, t.f.toByte)) { running [0x07] with a := 0 } =
    some (0x00, 0x00) := by decide

/-- R615's example: the sign bit is kept. -/
theorem test_sra_A :
    seen (fun t => (t.a, t.f.toByte, t.pc)) { running [0xCB, 0x2F] with a := 0x8A } =
      some (0xC5, 0x00, 0x0102) := by decide

/-- R650's example: BIT 0,A with A=0x80, F=0x10. -/
theorem test_bit_0_A :
    seen (fun t => t.f.toByte) { running [0xCB, 0x47] with a := 0x80, f := Flags.ofByte 0x10 } =
      some 0xB0 := by decide

/-- R655's example: `CB DE` on a zero byte. -/
theorem test_set_3_atHL :
    seen (fun t => t.read 0xC000)
      { running [0xCB, 0xDE] with h := 0xC0, l := 0x00, mem := [(0xC000, 0x00)] } =
      some (some 0x08) := by decide

/-- R704's example: `18 FE` jumps to itself. -/
theorem test_jr_self : seen (fun t => t.pc) (running [0x18, 0xFE]) = some 0x0100 := by decide

/-- R706's example, at 0x0100. -/
theorem test_call :
    seen (fun t => (t.pc, t.read 0xFFFD, t.read 0xFFFC, t.sp)) (running [0xCD, 0x00, 0x40]) =
      some (0x4000, some 0x01, some 0x03, 0xFFFC) := by decide

/-- R710's example. -/
theorem test_reti :
    seen (fun t => (t.pc, t.sp, t.ime))
      { running [0xD9] with sp := 0xFFFC, mem := [(0xFFFC, 0x50), (0xFFFD, 0x01)] } =
      some (0x0150, 0xFFFE, true) := by decide

/-- R752: HALT enters Halted with `halt_bug` false, and arms the latch with it true. -/
theorem test_halt :
    seen (fun t => t.run) { running [0x76] with ieReg := 1, ifReg := 1 } = some .halted ∧
      seen (fun t => (t.run, t.haltRepeat))
        { running [0x76] with ieReg := 1, ifReg := 1, haltBug := true } = some (.running, true) := by
  decide

/-- R757's example, at 0x0100. -/
theorem test_illegal :
    seen (fun t => (t.run, t.pc, t.report)) (running [0xD3]) =
      some (.faulted (.illegalOpcode 0x0100 0xD3), 0x0100, .fault (.illegalOpcode 0x0100 0xD3)) := by
  decide

/-- R811's example: source 0 first; R812: PC pushed, IME and the IF bit cleared. -/
theorem test_dispatch :
    seen (fun t => (t.pc, t.ime, t.ifReg, t.read 0xFFFD, t.report))
      { running [0x00] with ime := true, ieReg := 3, ifReg := 3 } =
      some (0x0040, false, 0x02, some 0x01, .serviced 0x0040 20) := by decide

/-- R756's example, step 2: the NOP after EI sets IME at its end. -/
theorem test_ei_countdown :
    seen (fun t => (t.ime, t.eiDelay, t.report)) { running [0x00] with eiDelay := 1 } =
      some (true, 0, .executed 4) := by decide

/-- R206, R841: a load of an unwritten byte. -/
theorem test_uninitialized :
    seen (fun t => t.run) { running [0x7E] with h := 0xC0, l := 0x00 } =
      some (.faulted (.uninitializedRead 0xC000 0x0100)) := by decide

/-- A table row placed by `withFetchWord` runs as the first instruction after reset. -/
theorem test_withFetchWord :
    seen (fun t => (t.pc, t.report)) (State.reset.withFetchWord 8 0xC3) =
        some (0x0000, .executed 16) ∧
      seen (fun t => (t.a, t.pc)) (State.reset.withFetchWord 16 0xCB37) = some (0x10, 0x0102) := by
  decide

/-- R221: a written bank of 0x20 selects 1. -/
theorem test_bank_zero : (mbc1State.write 0x2000 0x20).bank.romBankLow = 1 := by decide

/-- Writing the arrays keeps the canonical order. -/
theorem test_memory_order :
    (((State.reset.write 0xC001 2).write 0x8000 1).write 0xE001 3).mem =
      [(0x8000, 1), (0xC001, 3)] := by decide

/-! ## Witnesses -/

/-- A readable byte at HL, at BC, at the stack. -/
def readable : State := { running [] with b := 0x01, c := 0x00, d := 0x01, e := 0x00, sp := 0x4000 }

/-- No written byte at HL, BC, DE, 0xFF80 + C or the stack. -/
def unwritten : State :=
  { running [] with b := 0xC0, c := 0x80, d := 0xC0, e := 0x80, h := 0xC0, l := 0x80, sp := 0xC000 }

/-- A readable low stack byte under an unwritten high one. -/
def halfStack : State := { running [] with sp := 0xBFFF }

theorem good_readable : readable.Good where
  mem_wf := Memory.wf_nil
  mem_backed := by simp [readable, running, State.reset]
  cart_good := by
    rintro c hc
    cases hc
    refine ⟨⟨by decide, by decide, ?_⟩, Memory.wf_nil, ?_⟩
    · intro p hp; cases hp
    · intro r hr; cases hr
  bank_nonzero := by decide
  repeat_clear := fun _ => rfl

/-- A state with a cartridge, for the clauses of the reset statement. -/
theorem witness_ResetLeavesTheTableValues :
    (∃ c, mbc1State.cart = some c) ∧ State.reset.cart = none := ⟨⟨_, rfl⟩, rfl⟩

theorem witness_EveryStepKeepsTheInvariant : ∃ s t, s.Good ∧ step s = .next t :=
  ⟨readable, _, good_readable, rfl⟩

theorem witness_HostOperationsKeepTheInvariant :
    readable.Good ∧ ∃ t, readable.requestInterrupt 4 = some t := ⟨good_readable, _, rfl⟩

theorem witness_NoStepWritesTheRom :
    (∃ t c, step readable = .next t ∧ readable.cart = some c) ∧
      ∃ t, step State.reset = .next t ∧ State.reset.cart = none :=
  ⟨⟨_, _, rfl, rfl⟩, _, rfl, rfl⟩

theorem witness_RegisterFile : StackPair.hl ≠ StackPair.af := by decide

/-- The two ends of each range of the region table. -/
theorem witness_AddressDecoderRoutes :
    region 0x0000 = .rom ∧ region 0x7FFF = .rom ∧ region 0x8000 = .array ∧ region 0x9FFF = .array ∧
      region 0xA000 = .cartRam ∧ region 0xBFFF = .cartRam ∧ region 0xC000 = .array ∧
      region 0xDFFF = .array ∧ region 0xE000 = .echo ∧ region 0xFDFF = .echo ∧
      region 0xFE00 = .array ∧ region 0xFE9F = .array ∧ region 0xFEA0 = .unmapped ∧
      region 0xFEFF = .unmapped ∧ region 0xFF00 = .io ∧ region 0xFF0E = .io ∧
      region 0xFF0F = .ifByte ∧ region 0xFF10 = .io ∧ region 0xFF7F = .io ∧
      region 0xFF80 = .array ∧ region 0xFFFE = .array ∧ region 0xFFFF = .ieByte := by decide

theorem witness_EchoAliasesWorkRam :
    (∃ x : Word, 0xE000 ≤ x.toNat ∧ x.toNat < 0xFE00 ∧ x = 0xFDFF) ∧
      (∃ x y : Word, 0xDE00 ≤ x.toNat ∧ x.toNat < 0xE000 ∧ y ≠ x ∧ x = 0xDE00 ∧ y = 0xFE00) ∧
      ∃ x y : Word, 0xFE00 ≤ x.toNat ∧ 0xC000 ≤ y.toNat ∧ y.toNat < 0xE000 ∧ x = 0xFE00 ∧ y = 0xDFFF :=
  ⟨⟨0xFDFF, by decide⟩, ⟨0xDE00, 0xFE00, by decide⟩, 0xFE00, 0xDFFF, by decide⟩

theorem mapped_mbc1State : ramMapped mbc1State 0xA005 ↔ False := by
  constructor
  · rintro ⟨c, r, hc, -, hr, -, h⟩
    cases hc
    cases hr
    exact absurd h (by decide)
  · exact False.elim

theorem witness_ReadAfterWriteGivesTheByte :
    storesAt readable 0x8000 ∧ storesAt { mbc1State with bank := Banking.reset.write 0 0x0A } 0xBFFF ∧
      ¬storesAt readable 0xFEFF ∧ ¬storesAt mbc1State 0xA005 ∧ 0x8000 ≤ (0xA005 : Word).toNat := by
  refine ⟨⟨by decide, by decide, fun h => absurd h (by decide)⟩,
    ⟨by decide, by decide, fun _ => ⟨_, _, rfl, rfl, rfl, by decide, by decide⟩⟩,
    fun h => h.2.1 (by decide), fun h => mapped_mbc1State.1 (h.2.2 (by decide)), by decide⟩

theorem witness_WriteChangesNoOtherByte :
    (home 0xC000 ≠ home 0xE001 ∧ ¬(0xE001 : Word).toNat < 0x8000) ∧
      home 0x3FFF ≠ home 0x2000 ∧ ¬banked 0x3FFF :=
  ⟨by decide, by decide, by unfold banked; decide⟩

theorem witness_BankingRegisterWrites :
    (∃ c, mbc1State.cart = some c ∧ c.scheme = .mbc1) ∧
      (0x1FFF : Word).toNat < 0x2000 ∧ 0x2000 ≤ (0x2000 : Word).toNat ∧
      (0x3FFF : Word).toNat < 0x4000 ∧ 0x4000 ≤ (0x4000 : Word).toNat ∧
      (0x5FFF : Word).toNat < 0x6000 ∧ 0x6000 ≤ (0x6000 : Word).toNat ∧
      (0x7FFF : Word).toNat < 0x8000 := ⟨⟨_, rfl, rfl⟩, by decide⟩

theorem witness_NoControllerCartridge :
    ∃ c, readable.cart = some c ∧ c.scheme = .none := ⟨_, rfl, rfl⟩

/-- The clauses of the windows: the low selector, RAM disabled, absent, reached and past its end. -/
theorem witness_Mbc1Windows :
    (∃ c r, mbc1State.cart = some c ∧ c.scheme = .mbc1 ∧ c.ram = some r ∧
      mbc1State.bank.ramEnable = true ∧ mbc1State.bank.romBankLow ≠ 0 ∧
      r.size ≤ mbc1State.bank.ramBank * 0x2000 + ((0xA000 : Word).toNat - 0xA000) ∧
      Banking.reset.ramBank * 0x2000 + ((0xBFFF : Word).toNat - 0xA000) < r.size) ∧
      Banking.reset.ramEnable = false :=
  ⟨⟨_, _, rfl, rfl, rfl, by decide⟩, rfl⟩

/-- An image of 32 KiB with any byte as its type and RAM size code. -/
theorem image_of (k : Byte) :
    ∃ l : List Byte, l.length = 0x8000 ∧ l.getD 0x0147 0 = k ∧ l.getD 0x0149 0 = k := by
  have get : ∀ n i, i < n → (List.replicate n k).getD i 0 = k := by
    intro n i h
    rw [List.getD_eq_getElem?_getD, List.getElem?_replicate, if_pos h, Option.getD_some]
  exact ⟨List.replicate 0x8000 k, List.length_replicate, get _ _ (by omega), get _ _ (by omega)⟩

/-- An image for each answer of the checks. -/
theorem witness_LoadImageChecks :
    (State.reset.loadImage [] none).1 = .error .undersized ∧
      (∃ l, (State.reset.loadImage l none).1 = .error .unsupportedScheme) ∧
      (∃ l, (State.reset.loadImage l none).1 = .error .unsupportedRamSize) ∧
      (∃ l, (State.reset.loadImage l (some [])).1 = .error .ramInitLength) ∧
      (∃ l, (State.reset.loadImage l none).1 = .ok ()) ∧
      ∃ l, (State.reset.loadImage l (some [])).1 = .ok () := by
  obtain ⟨l4, h4⟩ := image_of 4
  obtain ⟨l1, h1⟩ := image_of 1
  obtain ⟨l2, h2⟩ := image_of 2
  obtain ⟨l0, h0⟩ := image_of 0
  refine ⟨by simp [State.loadImage, cartridgeOf], ⟨l4, ?_⟩, ⟨l1, ?_⟩, ⟨l2, ?_⟩, ⟨l2, ?_⟩, l0, ?_⟩
  · rw [State.loadImage, cartridgeOf, h4.1, h4.2.1]; rfl
  · rw [State.loadImage, cartridgeOf, h1.1, h1.2.1, h1.2.2]; rfl
  · rw [State.loadImage, cartridgeOf, h2.1, h2.2.1, h2.2.2]; rfl
  · rw [State.loadImage, cartridgeOf, h2.1, h2.2.1, h2.2.2]; rfl
  · rw [State.loadImage, cartridgeOf, h0.1, h0.2.1, h0.2.2]; rfl

theorem witness_LoadedImageIsRead :
    ∃ l : List Byte, (State.reset.loadImage l none).1 = .ok () ∧ l.getD 0x0147 0 ≠ 0 ∧
      l.getD 0x0149 0 ≠ 0 := by
  obtain ⟨l, h⟩ := image_of 2
  exact ⟨l, by rw [State.loadImage, cartridgeOf, h.1, h.2.1, h.2.2]; rfl, by rw [h.2.1]; decide,
    by rw [h.2.2]; decide⟩

/-- The forms that read at HL (LoadAndStoreAtHL, LoadAndStoreSteppingHL, the three ALU statements,
IncrementAndDecrement, ShiftMemory, BitTest, BitResetAndSet): a readable and an unwritten byte. -/
theorem witness_readsAtHL :
    readable.read readable.hl = some 0x00 ∧ unwritten.read unwritten.hl = none := by decide

theorem witness_LoadAndStoreAccumulator :
    readable.read readable.bc = some 0x00 ∧ readable.read readable.de = some 0x00 ∧
      readable.read 0x7FFF = some 0x00 ∧ readable.read 0xFF0F = some 0x00 ∧
      unwritten.read unwritten.bc = none ∧ unwritten.read unwritten.de = none ∧
      unwritten.read 0xFE9F = none ∧ unwritten.read (0xFF00 + unwritten.c.setWidth 16) = none := by
  decide

/-- The forms that pop (PopLoadsThePair, Returns): both bytes, neither, only the low one. -/
theorem witness_pops :
    readable.read readable.sp = some 0x00 ∧ readable.read (readable.sp + 1) = some 0x00 ∧
      unwritten.read unwritten.sp = none ∧ halfStack.read halfStack.sp ≠ none ∧
      halfStack.read (halfStack.sp + 1) = none := by decide

/-- The stack bytes of the reset SP, and a stack that wraps over 0x0000. -/
theorem witness_PopUndoesPush :
    storesAt readable (0xFFFE - 1) ∧ storesAt readable (0xFFFE - 2) ∧ storesAt readable (0x0000 - 1) ∧
      storesAt readable (0x0000 - 2) := by
  refine ⟨?_, ?_, ?_, ?_⟩ <;> exact ⟨by decide, by decide, fun h => absurd h (by decide)⟩

/-- Each condition (Jumps, CallsAndRestarts, Returns, CycleCounts) holds and fails somewhere. -/
theorem witness_conditions :
    (∀ cc, ∃ f, holds f cc) ∧ ∀ cc, ∃ f, ¬holds f cc := by
  refine ⟨fun cc => ?_, fun cc => ?_⟩ <;> cases cc
  · exact ⟨⟨false, false, false, false⟩, rfl⟩
  · exact ⟨⟨true, false, false, false⟩, rfl⟩
  · exact ⟨⟨false, false, false, false⟩, rfl⟩
  · exact ⟨⟨false, false, false, true⟩, rfl⟩
  · exact ⟨⟨true, false, false, false⟩, by simp [holds]⟩
  · exact ⟨⟨false, false, false, false⟩, by simp [holds]⟩
  · exact ⟨⟨false, false, false, true⟩, by simp [holds]⟩
  · exact ⟨⟨false, false, false, false⟩, by simp [holds]⟩

theorem witness_SystemInstructions :
    ∃ s : State, s.haltBug = true ∧ s.ime = false ∧ s.ieReg &&& s.ifReg &&& 0x1F ≠ 0 :=
  ⟨{ running [] with haltBug := true, ieReg := 0x10, ifReg := 0x10 }, by decide⟩

theorem witness_IllegalOpcodes :
    (∃ o ∈ illegalBytes, encode .illegal_FD = [o]) ∧
      ∃ t, exec .illegal_D3 readable = .next t ∧ readable.run = .running ∧
        t.run = .faulted (.illegalOpcode 0x0100 0xD3) :=
  ⟨⟨0xFD, by decide, rfl⟩, _, rfl, rfl, rfl⟩

theorem witness_EscapeRunsTheExtendedInstruction :
    readable.read readable.pc = some 0x00 ∧
      State.read { readable with pc := 0xC000 } 0xC000 = none := by decide

theorem witness_FlagsFrame :
    (∃ t, Instr.wellFormed .nop = true ∧ exec .nop readable = .next t ∧ writesFlags .nop = false) ∧
      (∃ t, exec (Instr.incReg .b) readable = .next t) ∧ (∃ t, exec .dec_atHL readable = .next t) ∧
      (∃ t, exec (Instr.bitHL .b7) readable = .next t) ∧ (∃ t, exec (Instr.addHL .sp) readable = .next t) ∧
      (∃ t, exec .ccf readable = .next t) ∧ ∃ t, exec .daa readable = .next t :=
  ⟨⟨_, rfl, rfl, rfl⟩, ⟨_, rfl⟩, ⟨_, rfl⟩, ⟨_, rfl⟩, ⟨_, rfl⟩, ⟨_, rfl⟩, _, rfl⟩

theorem witness_RegisterFrame :
    ∃ t, Instr.wellFormed .ld_A_atHLinc = true ∧ exec .ld_A_atHLinc readable = .next t ∧
      Reg8.b ∉ writtenRegs .ld_A_atHLinc ∧ writesSP .ld_A_atHLinc = false :=
  ⟨_, rfl, rfl, by decide, rfl⟩

/-- The memory frame: a form that stores nothing, a store and a byte outside it, and a call. -/
theorem witness_MemoryFrame :
    storedAddresses .cpl readable = [] ∧ storedAddresses .ld_atHL_B unwritten = [0xC080] ∧
      home 0xC081 ≠ home 0xC080 ∧ storedAddresses (.call_nn 0x4000) readable = [0x3FFF, 0x3FFE] ∧
      storedAddresses (.ld_atNn_SP 0xFFFF) readable = [0xFFFF, 0x0000] ∧
      ∃ t, Instr.wellFormed .ld_atHL_B = true ∧ exec .ld_atHL_B unwritten = .next t :=
  ⟨by decide, by decide, by decide, by decide, by decide, _, rfl, rfl⟩

theorem witness_ControlStateFrame :
    ∃ t, Instr.wellFormed .nop = true ∧ exec .nop readable = .next t ∧ Instr.nop ≠ .di ∧
      Instr.nop ≠ .ei ∧ Instr.nop ≠ .reti ∧ Instr.nop ≠ .halt ∧ ∀ n, Instr.nop ≠ .stop n :=
  ⟨_, rfl, rfl, by decide, by decide, by decide, by decide, fun n h => by cases h⟩

/-- Instructions of one, two and three bytes in front of PC, and a repeated opcode byte. -/
theorem witness_StepRunsTheDecodedInstruction :
    (∃ t, (running [0xC3, 0x50, 0x01]).cart ≠ none ∧ noInterrupt (running [0xC3, 0x50, 0x01]) ∧
      Instr.wellFormed (.jp_nn 0x0150) = true ∧ decode [0xC3, 0x50, 0x01] = .ok (.jp_nn 0x0150, []) ∧
      (running [0xC3, 0x50, 0x01]).read 0x0100 = some 0xC3 ∧
      bytesAt (running [0xC3, 0x50, 0x01]) 0x0101 [0x50, 0x01] ∧
      exec (.jp_nn 0x0150) (fetched (running [0xC3, 0x50, 0x01]) 3) = .next t) ∧
      bytesAt { running [0x3E] with haltRepeat := true } 0x0100 [0x3E] :=
  ⟨⟨_, by simp [running], .inl rfl, rfl, rfl, by decide, ⟨by decide, by decide, trivial⟩, rfl⟩,
    by decide, trivial⟩

theorem witness_FetchOfAnUnwrittenByteFaults :
    (∃ s : State, s.cart ≠ none ∧ s.run = .running ∧ noInterrupt s ∧ s.read s.pc = none) ∧
      ∃ s : State, s.cart ≠ none ∧ s.run = .running ∧ noInterrupt s ∧ s.read s.pc = some 0xC3 ∧
        bytesAt s (s.pc + 1) [0x00] ∧ 1 + [(0x00 : Byte)].length < instrLength 0xC3 ∧
        s.read (s.pc + 1 + 1) = none :=
  ⟨⟨{ running [] with pc := 0xC000 }, by simp [running], rfl, .inl rfl, by decide⟩,
    { running [] with pc := 0xC000, mem := [(0xC000, 0xC3), (0xC001, 0x00)] }, by simp [running], rfl,
    .inl rfl, by decide, ⟨by decide, trivial⟩, by decide, by decide⟩

/-- The lowest and the highest source. -/
theorem witness_InterruptDispatch :
    (∃ s : State, s.cart ≠ none ∧ s.run = .running ∧ s.ime = true ∧
      (s.ieReg &&& s.ifReg).getLsbD 0 = true) ∧
      ∃ s : State, s.cart ≠ none ∧ s.run = .halted ∧ s.ime = true ∧
        (s.ieReg &&& s.ifReg).getLsbD 4 = true ∧
        ∀ j, j < 4 → (s.ieReg &&& s.ifReg).getLsbD j = false :=
  ⟨⟨{ running [] with ime := true, ieReg := 0x1F, ifReg := 0x1F }, by simp [running], rfl, rfl,
      by decide⟩,
    { running [] with run := .halted, ime := true, ieReg := 0x10, ifReg := 0xFF }, by simp [running],
    rfl, rfl, by decide, by decide⟩

theorem witness_StepsThatDoNothing :
    State.reset.cart = none ∧
      (∃ s : State, ∃ r, s.run = .faulted r) ∧ (∃ s : State, s.cart ≠ none ∧ s.run = .stopped) ∧
      ∃ s : State, s.cart ≠ none ∧ s.run = .halted ∧ s.ieReg &&& s.ifReg &&& 0x1F = 0 :=
  ⟨rfl, ⟨{ running [] with run := .faulted (.illegalOpcode 0 0xD3) }, _, rfl⟩,
    ⟨{ running [] with run := .stopped }, by simp [running], rfl⟩,
    { running [] with run := .halted, ieReg := 0xE0, ifReg := 0xFF }, by simp [running], rfl,
    by decide⟩

theorem witness_HaltedWakes :
    ∃ s t : State, s.cart ≠ none ∧ s.run = .halted ∧ s.ieReg &&& s.ifReg &&& 0x1F ≠ 0 ∧ s.ime = true ∧
      step s = .next t :=
  ⟨{ running [] with run := .halted, ime := true, ieReg := 0x10, ifReg := 0x10 }, _, by simp [running],
    rfl, by decide, rfl, rfl⟩

/-- EI itself; after it a NOP, DI and EI. -/
theorem witness_EnableInterruptLatency :
    (running [0xFB]).read 0x0100 = some 0xFB ∧
      seen (fun t => t.report) { running [0x00] with eiDelay := 1 } = some (.executed 4) ∧
      seen (fun t => t.report) { running [0xF3] with eiDelay := 1 } = some (.executed 4) ∧
      seen (fun t => t.report) { running [0xFB] with eiDelay := 1 } = some (.executed 4) ∧
      (running [0xFB]).cart ≠ none ∧ noInterrupt (running [0xFB]) :=
  ⟨by decide, by decide, by decide, by decide, by simp [running], .inl rfl⟩

/-- IME changes in all four ways. -/
theorem witness_MasterEnableChanges :
    seen (fun t => t.ime) { running [0xD9] with sp := 0x4000 } = some true ∧
      seen (fun t => t.ime) { running [0x00] with eiDelay := 1 } = some true ∧
      seen (fun t => t.ime) { running [0xF3] with ime := true } = some false ∧
      seen (fun t => t.ime) { running [0x00] with ime := true, ieReg := 1, ifReg := 1 } =
        some false := by decide

/-- Each run state is reached, and kept. -/
theorem witness_RunStateChanges :
    seen (fun t => t.run) (running [0x76]) = some .halted ∧
      seen (fun t => t.run) (running [0x10]) = some .stopped ∧
      seen (fun t => t.run) { running [] with run := .stopped } = some .stopped ∧
      seen (fun t => t.run) { running [] with run := .faulted (.illegalOpcode 0 0xD3) } =
        some (.faulted (.illegalOpcode 0 0xD3)) ∧
      seen (fun t => t.run) (running [0xFD]) = some (.faulted (.illegalOpcode 0x0100 0xFD)) := by decide

theorem witness_HostRequests :
    (∃ s : State, s.run = .stopped) ∧ (∃ s : State, s.run ≠ .stopped) ∧
      (readable.requestInterrupt 4).isSome = true ∧ (readable.requestInterrupt 5).isSome = false :=
  ⟨⟨{ running [] with run := .stopped }, rfl⟩, ⟨readable, by decide⟩, rfl, rfl⟩

theorem witness_DecodeUndoesEncode : Instr.wellFormed (.ld_atNn_SP 0xFFFF) = true := rfl

theorem witness_DecodedBytesAreTheEncoding :
    decode [0x08, 0xFF, 0xFF, 0x00] = .ok (.ld_atNn_SP 0xFFFF, [0x00]) ∧
      instrLength 0x08 ≤ 1 + [(0xFF : Byte), 0xFF].length := ⟨rfl, by decide⟩

end Sys2Proof.Tests
end

section
/-! SUPPORT. A property of states that no write ends holds after every step: the induction over the shared
operations, the instructions and the step algorithm, done once for every such property (`KeptByWrites`). -/
namespace Sys2Proof.Machine

/-- What every operation but a store, an opcode fetch and HALT leaves unchanged: the byte arrays, the
cartridge with its banking registers, the parameter `halt_bug` and the repeat latch. -/
def State.held (s : State) : Memory × Option Cartridge × Banking × Bool × Bool :=
  (s.mem, s.cart, s.bank, s.haltBug, s.haltRepeat)

theorem State.held_setReg (s : State) (r : Reg8) (v : Byte) : (s.setReg r v).held = s.held := by
  cases r <;> rfl

theorem State.held_setPair (s : State) (p : RegPair) (v : Word) : (s.setPair p v).held = s.held := by
  cases p <;> rfl

theorem State.held_setStackPair (s : State) (p : StackPair) (v : Word) :
    (s.setStackPair p v).held = s.held := by cases p <;> rfl

/-- A property of what a state holds that every write through the address decoder keeps, and every change
of the repeat latch that R111 allows: it is cleared at any time, and set with `halt_bug` only. `State.Good`
is of this kind, and so is the value of any part of the state that no write changes. -/
structure KeptByWrites (P : State → Prop) : Prop where
  of_held : ∀ {s t : State}, P s → t.held = s.held → P t
  write : ∀ {s : State}, P s → ∀ (x : Word) (v : Byte), P (s.write x v)
  set_repeat : ∀ {s : State}, P s → ∀ b, (b = false ∨ s.haltBug = true) → P { s with haltRepeat := b }

/-- Where an outcome is a next state, the property holds of it. -/
def Answers (P : State → Prop) (o : Result) : Prop := ∀ t, o = .next t → P t

@[simp] theorem answers_next {P : State → Prop} {t : State} : Answers P (.next t) ↔ P t :=
  ⟨fun h => h t rfl, fun h _ e => by cases e; exact h⟩

/-- Fetching an instruction sets `start`, moves PC and clears the repeat latch; a fault at one of its bytes
leaves the latch set or cleared (R820, R841). -/
theorem fetchInstr_shape (s : State) :
    (∃ bytes pc, fetchInstr s = .ok (bytes, { s with start := s.pc, haltRepeat := false, pc })) ∨
    (∃ pc r x, (r = s.haltRepeat ∨ r = false) ∧
      fetchInstr s = .error ({ s with start := s.pc, haltRepeat := r, pc }.uninitialized x)) := by
  unfold fetchInstr
  rcases fetchOpcode_cases { s with start := s.pc } with ⟨o, -, e⟩ | ⟨-, e⟩ <;> rw [e] <;> dsimp only
  · rcases fetchBytes_cases (instrLength o - 1) { s with
        start := s.pc
        haltRepeat := false
        pc := if s.haltRepeat then s.pc else s.pc + 1 } with ⟨vs, -, e⟩ | ⟨p, -, e⟩ <;> rw [e]
    · exact .inl ⟨_, _, rfl⟩
    · exact .inr ⟨_, _, _, .inr rfl, rfl⟩
  · exact .inr ⟨_, _, _, .inl rfl, rfl⟩

/-- When fetching and executing ends in a next state: it is the end of a fault at a fetch, or of the
instruction the fetched bytes decode to (R820). -/
theorem executeNext_eq_next {s t : State} (h : executeNext s = .next t) :
    (∃ u, fetchInstr s = .error u ∧ t = finish 0 u) ∨
    (∃ bytes s1 i rest u, fetchInstr s = .ok (bytes, s1) ∧ decode bytes = .ok (i, rest) ∧
      exec i s1 = .next u ∧ t = finish (cycles i s1.f) u) := by
  unfold executeNext at h
  split at h
  · cases h
    exact .inl ⟨_, ‹_›, rfl⟩
  · split at h
    · cases h
    · split at h
      · cases h
        exact .inr ⟨_, _, _, _, _, ‹_›, ‹_›, ‹_›, rfl⟩
      · rename_i notNext
        exact (notNext t h).elim

namespace KeptByWrites

variable {P : State → Prop} (hP : KeptByWrites P) {s : State} (h : P s)
include hP h

/-! ### The shared operations of Ops.lean -/

theorem push16 (v : Word) : P (s.push16 v) := by
  rw [State.push16_eq]
  exact hP.of_held (hP.write (hP.write h _ _) _ _) rfl

theorem dispatch : P s.dispatch :=
  have cleared : P { s with
      ifReg := s.ifReg &&& ~~~(1#8 <<< lowestSource s.pending)
      ime := false
      eiDelay := 0 } := hP.of_held h rfl
  hP.of_held (hP.push16 cleared s.pc) rfl

theorem uninitialized (x : Word) : P (s.uninitialized x) := hP.of_held h rfl

theorem memRead (x : Word) {k : Byte → Result} (hk : ∀ v, Answers P (k v)) :
    Answers P (s.memRead x k) := by
  rcases s.memRead_cases x k with ⟨v, -, e⟩ | ⟨-, e⟩ <;> rw [e]
  · exact hk v
  · exact answers_next.2 (hP.uninitialized h x)

theorem pop16 {k : Word → State → Result} (hk : ∀ v t, P t → Answers P (k v t)) :
    Answers P (s.pop16 k) := by
  have moved (v : Word) : P { s with sp := v } := hP.of_held h rfl
  rcases s.pop16_cases k with ⟨lo, hi, -, -, e⟩ | ⟨-, e⟩ | ⟨lo, -, -, e⟩ <;> rw [e]
  · exact hk _ _ (moved _)
  · exact answers_next.2 (hP.uninitialized h _)
  · exact answers_next.2 (hP.uninitialized (moved _) _)

/-! ### Loads -/

@[simp] theorem loadReg (dst r : Reg8) : Answers P (loadReg dst r s) :=
  answers_next.2 (hP.of_held h (State.held_setReg _ _ _))

@[simp] theorem loadImm (dst : Reg8) (n : Byte) : Answers P (loadImm dst n s) :=
  answers_next.2 (hP.of_held h (State.held_setReg _ _ _))

@[simp] theorem loadFromHL (dst : Reg8) : Answers P (loadFromHL dst s) :=
  hP.memRead h _ fun _ => answers_next.2 (hP.of_held h (State.held_setReg _ _ _))

@[simp] theorem storeToHL (v : Byte) : Answers P (storeToHL v s) :=
  answers_next.2 (hP.write h _ _)

@[simp] theorem loadA (x : Word) : Answers P (loadA x s) :=
  hP.memRead h _ fun _ => answers_next.2 (hP.of_held h rfl)

@[simp] theorem storeA (x : Word) : Answers P (storeA x s) :=
  answers_next.2 (hP.write h _ _)

@[simp] theorem storeAStep (d : Word) : Answers P (storeAStep d s) :=
  answers_next.2 (hP.of_held (hP.write h s.hl s.a) rfl)

@[simp] theorem loadAStep (d : Word) : Answers P (loadAStep d s) :=
  hP.memRead h _ fun _ => answers_next.2 (hP.of_held h rfl)

@[simp] theorem loadPair (p : RegPair) (nn : Word) : Answers P (loadPair p nn s) :=
  answers_next.2 (hP.of_held h (State.held_setPair _ _ _))

@[simp] theorem storeSP (nn : Word) : Answers P (storeSP nn s) :=
  answers_next.2 (hP.write (hP.write h _ _) _ _)

@[simp] theorem loadSPFromHL : Answers P (loadSPFromHL s) := answers_next.2 (hP.of_held h rfl)

@[simp] theorem pushPair (p : StackPair) : Answers P (pushPair p s) :=
  answers_next.2 (hP.push16 h _)

@[simp] theorem popPair (p : StackPair) : Answers P (popPair p s) :=
  hP.pop16 h fun _ _ ht => answers_next.2 (hP.of_held ht (State.held_setStackPair _ _ _))

/-! ### Arithmetic and logic -/

@[simp] theorem aluOnByte (op : AluOp) (v : Byte) : Answers P (aluOnByte op v s) :=
  answers_next.2 (hP.of_held h rfl)

@[simp] theorem aluOnHL (op : AluOp) : Answers P (aluOnHL op s) :=
  hP.memRead h _ fun v => hP.aluOnByte h op v

@[simp] theorem incrementReg (r : Reg8) : Answers P (incrementReg r s) :=
  answers_next.2 (hP.of_held h (State.held_setReg _ _ _))

@[simp] theorem decrementReg (r : Reg8) : Answers P (decrementReg r s) :=
  answers_next.2 (hP.of_held h (State.held_setReg _ _ _))

@[simp] theorem incrementHL : Answers P (incrementHL s) :=
  hP.memRead h _ fun v => answers_next.2 (hP.of_held (hP.write h s.hl (inc8 v s.f).1) rfl)

@[simp] theorem decrementHL : Answers P (decrementHL s) :=
  hP.memRead h _ fun v => answers_next.2 (hP.of_held (hP.write h s.hl (dec8 v s.f).1) rfl)

@[simp] theorem decimalAdjust : Answers P (decimalAdjust s) := answers_next.2 (hP.of_held h rfl)

@[simp] theorem complementA : Answers P (complementA s) := answers_next.2 (hP.of_held h rfl)

@[simp] theorem setCarry : Answers P (setCarry s) := answers_next.2 (hP.of_held h rfl)

@[simp] theorem complementCarry : Answers P (complementCarry s) := answers_next.2 (hP.of_held h rfl)

@[simp] theorem addToHL (p : RegPair) : Answers P (addToHL p s) := answers_next.2 (hP.of_held h rfl)

@[simp] theorem incrementPair (p : RegPair) : Answers P (incrementPair p s) :=
  answers_next.2 (hP.of_held h (State.held_setPair _ _ _))

@[simp] theorem decrementPair (p : RegPair) : Answers P (decrementPair p s) :=
  answers_next.2 (hP.of_held h (State.held_setPair _ _ _))

@[simp] theorem addToSP (e : Byte) : Answers P (addToSP e s) := answers_next.2 (hP.of_held h rfl)

@[simp] theorem loadHLFromSP (e : Byte) : Answers P (loadHLFromSP e s) :=
  answers_next.2 (hP.of_held h rfl)

/-! ### Rotates, shifts and bits -/

@[simp] theorem rotateA (op : ShiftOp) : Answers P (rotateA op s) :=
  answers_next.2 (hP.of_held h rfl)

@[simp] theorem shiftOnReg (op : ShiftOp) (r : Reg8) : Answers P (shiftOnReg op r s) :=
  answers_next.2 (hP.of_held h (State.held_setReg _ _ _))

@[simp] theorem shiftOnHL (op : ShiftOp) : Answers P (shiftOnHL op s) :=
  hP.memRead h _ fun v => answers_next.2 (hP.of_held (hP.write h s.hl (shift op v s.f.c).1) rfl)

@[simp] theorem testBitOnReg (b : BitIx) (r : Reg8) : Answers P (testBitOnReg b r s) :=
  answers_next.2 (hP.of_held h rfl)

@[simp] theorem testBitOnHL (b : BitIx) : Answers P (testBitOnHL b s) :=
  hP.memRead h _ fun _ => answers_next.2 (hP.of_held h rfl)

@[simp] theorem resetBitOnReg (b : BitIx) (r : Reg8) : Answers P (resetBitOnReg b r s) :=
  answers_next.2 (hP.of_held h (State.held_setReg _ _ _))

@[simp] theorem resetBitOnHL (b : BitIx) : Answers P (resetBitOnHL b s) :=
  hP.memRead h _ fun _ => answers_next.2 (hP.write h _ _)

@[simp] theorem setBitOnReg (b : BitIx) (r : Reg8) : Answers P (setBitOnReg b r s) :=
  answers_next.2 (hP.of_held h (State.held_setReg _ _ _))

@[simp] theorem setBitOnHL (b : BitIx) : Answers P (setBitOnHL b s) :=
  hP.memRead h _ fun _ => answers_next.2 (hP.write h _ _)

/-! ### Control flow -/

@[simp] theorem jump (target : Word) : Answers P (jump target s) :=
  answers_next.2 (hP.of_held h rfl)

@[simp] theorem jumpIf (cc : Cond) (nn : Word) : Answers P (jumpIf cc nn s) := by
  unfold Machine.jumpIf
  split
  · exact hP.jump h nn
  · exact answers_next.2 h

@[simp] theorem jumpRelative (e : Byte) : Answers P (jumpRelative e s) := hP.jump h _

@[simp] theorem jumpRelativeIf (cc : Cond) (e : Byte) : Answers P (jumpRelativeIf cc e s) := by
  unfold Machine.jumpRelativeIf
  split
  · exact hP.jumpRelative h e
  · exact answers_next.2 h

@[simp] theorem call (target : Word) : Answers P (call target s) :=
  answers_next.2 (hP.of_held (hP.push16 h s.pc) rfl)

@[simp] theorem callIf (cc : Cond) (nn : Word) : Answers P (callIf cc nn s) := by
  unfold Machine.callIf
  split
  · exact hP.call h nn
  · exact answers_next.2 h

@[simp] theorem ret : Answers P (ret s) :=
  hP.pop16 h fun _ _ ht => answers_next.2 (hP.of_held ht rfl)

@[simp] theorem retIf (cc : Cond) : Answers P (retIf cc s) := by
  unfold Machine.retIf
  split
  · exact hP.ret h
  · exact answers_next.2 h

@[simp] theorem returnFromInterrupt : Answers P (returnFromInterrupt s) :=
  hP.pop16 h fun _ _ ht => answers_next.2 (hP.of_held ht rfl)

/-! ### System instructions -/

theorem extendedInstruction (o : Byte) : Answers P (extendedInstruction o s) := by
  unfold Machine.extendedInstruction
  split
  · exact hP.shiftOnReg h _ _
  · exact hP.shiftOnHL h _
  · exact hP.testBitOnReg h _ _
  · exact hP.testBitOnHL h _
  · exact hP.resetBitOnReg h _ _
  · exact hP.resetBitOnHL h _
  · exact hP.setBitOnReg h _ _
  · exact hP.setBitOnHL h _

@[simp] theorem escape : Answers P (escape s) :=
  have moved : P { s with pc := s.pc + 1 } := hP.of_held h rfl
  hP.memRead h _ fun o => hP.extendedInstruction moved o

/-- HALT sets the repeat latch with `halt_bug` only (R752). -/
@[simp] theorem halt : Answers P (halt s) := by
  unfold Machine.halt
  split
  · rename_i hbug
    simp only [Bool.and_eq_true] at hbug
    exact answers_next.2 (hP.set_repeat h true (.inr hbug.1.1))
  · exact answers_next.2 (hP.of_held h rfl)

@[simp] theorem stop : Answers P (stop s) := answers_next.2 (hP.of_held h rfl)

@[simp] theorem disableInterrupts : Answers P (disableInterrupts s) :=
  answers_next.2 (hP.of_held h rfl)

@[simp] theorem enableInterrupts : Answers P (enableInterrupts s) :=
  answers_next.2 (hP.of_held h rfl)

@[simp] theorem illegalOpcode (op : Byte) : Answers P (illegalOpcode op s) :=
  answers_next.2 (hP.of_held h rfl)

/-! ### An instruction and a step -/

/-- Each form of instruction is a shared operation (the `exec_…` laws of Forms.lean), and the rules above say
that each of those keeps the property. -/
theorem exec (i : Instr) : Answers P (exec i s) := by
  cases i using Instr.byForm <;> simp [noOperation, hP, h]

theorem fetchInstr_ok {bytes : List Byte} {t : State} (e : fetchInstr s = .ok (bytes, t)) : P t := by
  rcases fetchInstr_shape s with ⟨_, _, e'⟩ | ⟨_, _, _, _, e'⟩ <;> rw [e'] at e <;> cases e
  exact hP.of_held (hP.set_repeat h false (.inl rfl)) rfl

theorem fetchInstr_error {t : State} (e : fetchInstr s = .error t) : P t := by
  rcases fetchInstr_shape s with ⟨_, _, e'⟩ | ⟨pc, r, x, hr, e'⟩ <;> rw [e'] at e <;> cases e
  have latched : P { s with haltRepeat := r } := by
    rcases hr with rfl | rfl
    · exact h
    · exact hP.set_repeat h false (.inl rfl)
  exact hP.of_held latched rfl

theorem finish (n : Nat) : P (finish n s) := by
  obtain ⟨ime, d, r, e⟩ := finish_shape n s
  rw [e]
  exact hP.of_held h rfl

theorem executeNext : Answers P (executeNext s) := by
  intro t ht
  rcases executeNext_eq_next ht with ⟨u, hu, rfl⟩ | ⟨bytes, s1, i, rest, u, hf, -, hu, rfl⟩
  · exact hP.finish (hP.fetchInstr_error h hu) 0
  · exact hP.finish (hP.exec (hP.fetchInstr_ok h hf) i u hu) _

theorem reported (r : StepResult) : P (s.reported r) := hP.of_held h rfl

/-- Every step keeps the property. -/
theorem step : Answers P (step s) := by
  have woken : P { s with run := .running } := hP.of_held h rfl
  unfold Machine.step
  rcases sequencerStep_cases (s := s) rfl with e | e | ⟨_, rfl, -, ⟨-, e⟩ | ⟨-, e⟩⟩ <;> rw [e]
  · exact answers_next.2 (hP.reported h _)
  · exact answers_next.2 (hP.reported h _)
  · exact answers_next.2 (hP.reported (hP.dispatch woken) _)
  · exact hP.executeNext woken

end KeptByWrites

end Sys2Proof.Machine
end

section
/-! The part of a state that no step changes (R8, R112, R244), and the obligation on it. -/
namespace Sys2Proof.Machine

/-- What of a cartridge is fixed once `loadImage` has installed it: everything but its banking registers and
the contents of its RAM (R112, R244). -/
def Cartridge.fixedPart (c : Cartridge) : RomImage × Scheme × Memory × Option Nat :=
  (c.rom, c.scheme, c.ramInit, c.ram.map RamImage.size)

theorem Cartridge.fixedPart_eq_iff {c d : Cartridge} :
    c.fixedPart = d.fixedPart ↔
      c.rom = d.rom ∧ c.scheme = d.scheme ∧ c.ramInit = d.ramInit ∧
        c.ram.map RamImage.size = d.ram.map RamImage.size := by
  simp [Cartridge.fixedPart]

/-- The parameter `halt_bug`, and the fixed part of the cartridge if there is one. -/
def State.fixedPart (s : State) : Bool × Option (RomImage × Scheme × Memory × Option Nat) :=
  (s.haltBug, s.cart.map Cartridge.fixedPart)

/-- No write below 0x8000 reaches the ROM image: at most it sets a banking register (R202, R211). -/
theorem State.fixedPart_writeROM (s : State) (x : Word) (v : Byte) :
    (s.writeROM x v).fixedPart = s.fixedPart := by
  unfold State.writeROM
  split
  · split <;> rfl
  · rfl

/-- A write of cartridge RAM changes the contents of the image and not its size (R211, R228). -/
theorem State.fixedPart_writeRAM (s : State) (x : Word) (v : Byte) :
    (s.writeRAM x v).fixedPart = s.fixedPart := by
  cases hm : s.mappedRam x with
  | none => rw [State.writeRAM_of_none hm]
  | some p =>
    obtain ⟨c, r, off⟩ := p
    obtain ⟨hc, -, hr, -⟩ := State.mappedRam_eq_some.1 hm
    rw [State.writeRAM_of_some hm]
    simp [State.fixedPart, Cartridge.fixedPart, hc, hr]

theorem State.fixedPart_write (s : State) (x : Word) (v : Byte) :
    (s.write x v).fixedPart = s.fixedPart := by
  unfold State.write
  cases region x with
  | rom => exact s.fixedPart_writeROM x v
  | cartRam => exact s.fixedPart_writeRAM x v
  | _ => rfl

theorem keptByWrites_fixedPart (s₀ : State) : KeptByWrites fun t => t.fixedPart = s₀.fixedPart where
  of_held := by
    intro s t h held
    simp only [State.held, Prod.mk.injEq] at held
    obtain ⟨-, hcart, -, hbug, -⟩ := held
    rw [← h, State.fixedPart, hcart, hbug, State.fixedPart]
  write := fun h x v => (State.fixedPart_write _ x v).trans h
  set_repeat := fun h _ _ => h

/-- A step leaves the fixed part of the state as it is (R8, R112, R202, R253). -/
theorem step_fixedPart {s t : State} (h : step s = .next t) : t.fixedPart = s.fixedPart :=
  (keptByWrites_fixedPart s).step rfl t h

/-- Settles O6: a step keeps the fixed part of the state, which holds everything the statement names. -/
theorem noStepWritesTheRom : Obligations.NoStepWritesTheRom := by
  intro s t h
  obtain ⟨hbug, hcart⟩ := Prod.ext_iff.1 (step_fixedPart h)
  simp only [State.fixedPart] at hbug hcart
  refine ⟨hbug, fun hnone => ?_, fun c hsome => ?_⟩
  · rwa [hnone, Option.map_none, Option.map_eq_none_iff] at hcart
  · rw [hsome, Option.map_some, Option.map_eq_some_iff] at hcart
    obtain ⟨c', hc', hfixed⟩ := hcart
    exact ⟨c', hc', Cartridge.fixedPart_eq_iff.1 hfixed⟩

end Sys2Proof.Machine
end

section
/-! The state that a reset leaves, and the obligation on it (R115, R900, R901). -/
namespace Sys2Proof.Machine
open Sys2Proof.Claims

/-- Entry `k` of the I/O bank after reset is entry `k` of the parameter `io_initial` (R115). -/
theorem ioReset_getElem? {k : Nat} (h : k < 128) : ioReset[k]? = some (Config.ioInitial k) := by
  simp [ioReset, h]

theorem resetValues_reset : resetValues State.reset := by
  refine ⟨rfl, ?f, rfl, rfl, rfl, rfl, rfl, rfl, ?af, ?bc, ?de, ?hl, rfl, rfl, rfl, rfl, rfl, rfl, rfl, rfl,
    rfl, rfl, rfl, rfl, rfl, fun _ hk _ => ioReset_getElem? hk⟩
  all_goals decide

/-- The table says nothing of the cartridge and of `halt_bug`, and `reset()` differs from the power-on state in
those only (R900). -/
theorem State.resetValues_hostReset (s : State) : resetValues s.hostReset := resetValues_reset

theorem State.hostReset_cart (s : State) : s.hostReset.cart = s.cart.map Cartridge.afterReset := rfl

/-- Settles O1: the power-on state holds the table's values, and `reset()` keeps all of the cartridge but the
contents of its RAM. -/
theorem resetLeavesTheTableValues : Obligations.ResetLeavesTheTableValues := by
  refine ⟨⟨resetValues_reset, rfl⟩, fun s => ⟨s.resetValues_hostReset, fun hnone => ?_, fun c hsome => ?_⟩⟩
  · rw [State.hostReset_cart, hnone, Option.map_none]
  · refine ⟨c.afterReset, ?_, rfl, rfl, rfl, rfl⟩
    rw [State.hostReset_cart, hsome, Option.map_some]

end Sys2Proof.Machine
end

section
/-! The register file: words as numbers, the byte F, reads after writes, and the obligation on them
(R101, R102, R103). -/
namespace Sys2Proof

theorem toNat_wordOf (hi lo : Byte) : (wordOf hi lo).toNat = hi.toNat * 256 + lo.toNat := by
  rw [wordOf, BitVec.toNat_append, ← Nat.shiftLeft_add_eq_or_of_lt lo.isLt, Nat.shiftLeft_eq]

theorem toNat_highByte (v : Word) : (highByte v).toNat = v.toNat / 256 := by
  have hv : v.toNat / 256 < 256 := by omega
  rw [highByte, BitVec.extractLsb'_toNat, Nat.shiftRight_eq_div_pow, Nat.mod_eq_of_lt hv]

theorem toNat_lowByte (v : Word) : (lowByte v).toNat = v.toNat % 256 := by
  rw [lowByte, BitVec.extractLsb'_toNat, Nat.shiftRight_zero]

end Sys2Proof

namespace Sys2Proof.Machine

/-! ### The byte F (R103) -/

/-- The layout of F, checked over its sixteen values. -/
theorem Flags.toByte_layout (f : Flags) :
    f.toByte.getLsbD 7 = f.z ∧ f.toByte.getLsbD 6 = f.n ∧ f.toByte.getLsbD 5 = f.h ∧
      f.toByte.getLsbD 4 = f.c ∧ f.toByte &&& 0x0F = 0 := by
  obtain ⟨z, n, h, c⟩ := f
  decide +revert

/-- A byte written to F reads back with bits 3:0 cleared, checked over the 256 bytes. -/
theorem Flags.toByte_ofByte (v : Byte) : (Flags.ofByte v).toByte = v &&& 0xF0 := by
  decide +revert

theorem Flags.toNat_toByte_ofByte (v : Byte) : (Flags.ofByte v).toByte.toNat = v.toNat / 16 * 16 := by
  rw [Flags.toByte_ofByte]
  decide +revert

/-! ### Reads after writes (R101, R102) -/

theorem State.reg_setReg (s : State) (r q : Reg8) (v : Byte) :
    (s.setReg r v).reg q = if q = r then v else s.reg q := by
  split
  case isTrue h => rw [h, State.reg_setReg_self]
  case isFalse h => exact s.reg_setReg_of_ne r q v h

/-- Of the four pairs SP is one register, and the others are written as two bytes and read as their
concatenation. -/
@[simp] theorem State.pair_setPair (s : State) (p : RegPair) (v : Word) : (s.setPair p v).pair p = v := by
  cases p with
  | sp => rfl
  | bc | de | hl => exact wordOf_highByte_lowByte v

/-- AF is left out: its low byte keeps its four upper bits only. -/
theorem State.stackPair_setStackPair (s : State) {p : StackPair} (v : Word) (h : p ≠ .af) :
    (s.setStackPair p v).stackPair p = v := by
  cases p with
  | af => exact absurd rfl h
  | bc | de | hl => exact wordOf_highByte_lowByte v

theorem State.toNat_a_setStackPair_af (s : State) (v : Word) :
    (s.setStackPair .af v).a.toNat = v.toNat / 256 := toNat_highByte v

theorem State.toNat_f_setStackPair_af (s : State) (v : Word) :
    (s.setStackPair .af v).f.toByte.toNat = v.toNat % 256 / 16 * 16 :=
  (Flags.toNat_toByte_ofByte _).trans (by rw [toNat_lowByte])

/-- Settles O7: reads after writes register by register and pair by pair, with the pairs as the numbers of
their two bytes. -/
theorem registerFile : Obligations.RegisterFile := by
  refine ⟨fun s => ⟨s.reg_setReg, ?af, ?bc, ?de, ?hl, s.pair_setPair, fun _ v => s.stackPair_setStackPair v,
    fun v => ⟨s.toNat_a_setStackPair_af v, s.toNat_f_setStackPair_af v⟩⟩,
    Flags.toByte_layout, Flags.toByte_ofByte⟩
  all_goals exact toNat_wordOf _ _

end Sys2Proof.Machine
end

section
/-! The address decoder: what a read and a write do in each region, where a write stores in the byte arrays,
and the obligations on the region table and on the echo (R201 to R205). -/
namespace Sys2Proof.Machine
open Sys2Proof.Claims

section
variable {s : State} {x : Word}

/-! ### Reads and writes by region (R201, R202) -/

theorem State.read_of_rom (h : region x = .rom) : s.read x = some (s.readROM x) := by
  simp [State.read, h]

theorem State.read_of_cartRam (h : region x = .cartRam) : s.read x = s.readRAM x := by
  simp [State.read, h]

theorem State.read_of_array (h : region x = .array) : s.read x = s.mem.read x.toNat := by
  simp [State.read, h]

theorem State.read_of_echo (h : region x = .echo) : s.read x = s.mem.read (x.toNat - 0x2000) := by
  simp [State.read, h]

theorem State.read_of_unmapped (h : region x = .unmapped) : s.read x = some 0xFF := by
  simp [State.read, h]

theorem State.read_of_io (h : region x = .io) : s.read x = some (s.io.get (ioIndex x)) := by
  simp [State.read, h]

theorem State.read_of_ifByte (h : region x = .ifByte) : s.read x = some s.ifReg := by
  simp [State.read, h]

theorem State.read_of_ieByte (h : region x = .ieByte) : s.read x = some s.ieReg := by
  simp [State.read, h]

theorem State.write_of_rom (h : region x = .rom) (v : Byte) : s.write x v = s.writeROM x v := by
  simp [State.write, h]

theorem State.write_of_cartRam (h : region x = .cartRam) (v : Byte) :
    s.write x v = s.writeRAM x v := by
  simp [State.write, h]

theorem State.write_of_array (h : region x = .array) (v : Byte) :
    s.write x v = { s with mem := s.mem.write x.toNat v } := by
  simp [State.write, h]

theorem State.write_of_echo (h : region x = .echo) (v : Byte) :
    s.write x v = { s with mem := s.mem.write (x.toNat - 0x2000) v } := by
  simp [State.write, h]

theorem State.write_of_unmapped (h : region x = .unmapped) (v : Byte) : s.write x v = s := by
  simp [State.write, h]

theorem State.write_of_io (h : region x = .io) (v : Byte) :
    s.write x v = { s with io := s.io.set (ioIndex x) v } := by
  simp [State.write, h]

theorem State.write_of_ifByte (h : region x = .ifByte) (v : Byte) :
    s.write x v = { s with ifReg := v } := by
  simp [State.write, h]

theorem State.write_of_ieByte (h : region x = .ieByte) (v : Byte) :
    s.write x v = { s with ieReg := v } := by
  simp [State.write, h]

/-! ### The I/O bank by offset -/

theorem ioIndex_val (h : region x = .io) : (ioIndex x : Nat) = x.toNat - 0xFF00 := by
  rw [region_eq_io] at h
  simp only [ioIndex]
  omega

theorem io_getElem?_ioIndex (h : region x = .io) (io : Vector Byte 128) :
    io[x.toNat - 0xFF00]? = some (io.get (ioIndex x)) := by
  rw [← ioIndex_val h]
  exact Vector.getElem?_eq_getElem (ioIndex x).isLt

theorem io_getElem?_set_ioIndex (h : region x = .io) (io : Vector Byte 128) (v : Byte) (k : Nat) :
    (io.set (ioIndex x) v)[k]? = if k = x.toNat - 0xFF00 then some v else io[k]? := by
  rw [Vector.getElem?_set, ioIndex_val h]
  simp only [eq_comm (a := k)]

/-! ### Where a write stores in the byte arrays (R203) -/

theorem State.writeROM_mem (s : State) (x : Word) (v : Byte) : (s.writeROM x v).mem = s.mem := by
  unfold State.writeROM
  split
  · split <;> rfl
  · rfl

theorem State.writeRAM_mem (s : State) (x : Word) (v : Byte) : (s.writeRAM x v).mem = s.mem := by
  unfold State.writeRAM
  split <;> rfl

theorem home_of_echo (h : region x = .echo) : home x = x.toNat - 0x2000 :=
  if_pos ((region_eq_echo x).1 h)

theorem home_of_not_echo (h : region x ≠ .echo) : home x = x.toNat :=
  if_neg (mt (region_eq_echo x).2 h)

/-- A write stores in the byte arrays at the home of its address and nowhere else. -/
theorem State.mem_read_write_of_ne_home {k : Nat} (h : k ≠ home x) (v : Byte) :
    (s.write x v).mem.read k = s.mem.read k := by
  cases hr : region x with
  | rom => rw [State.write_of_rom hr, State.writeROM_mem]
  | cartRam => rw [State.write_of_cartRam hr, State.writeRAM_mem]
  | array =>
    rw [home_of_not_echo (by simp [hr])] at h
    rw [State.write_of_array hr]
    exact s.mem.read_write_of_ne v h
  | echo =>
    rw [home_of_echo hr] at h
    rw [State.write_of_echo hr]
    exact s.mem.read_write_of_ne v h
  | unmapped => rw [State.write_of_unmapped hr]
  | io => rw [State.write_of_io hr]
  | ifByte => rw [State.write_of_ifByte hr]
  | ieByte => rw [State.write_of_ieByte hr]

/-- A read in the byte arrays does not see a write at an address of another home. -/
theorem State.read_write_of_array_ne_home {y : Word} (hx : region x = .array) (h : x.toNat ≠ home y)
    (v : Byte) : (s.write y v).read x = s.read x := by
  rw [State.read_of_array hx, State.read_of_array hx, State.mem_read_write_of_ne_home h]

theorem State.read_write_self_of_array (hx : region x = .array) (v : Byte) :
    (s.write x v).read x = some v := by
  rw [State.read_of_array hx, State.write_of_array hx]
  exact s.mem.read_write_self _ v

/-! ### The echo (R203) -/

theorem toNat_echoed (h : region x = .echo) : (x - 0x2000).toNat = x.toNat - 0x2000 := by
  rw [region_eq_echo] at h
  exact BitVec.toNat_sub_of_le (BitVec.le_def.2 (Nat.le_trans (by decide) h.1))

theorem region_echoed (h : region x = .echo) : region (x - 0x2000) = .array := by
  rw [region_eq_array, toNat_echoed h]
  rw [region_eq_echo] at h
  omega

theorem State.read_echo (h : region x = .echo) : s.read x = s.read (x - 0x2000) := by
  rw [State.read_of_echo h, State.read_of_array (region_echoed h), toNat_echoed h]

theorem State.write_echo (h : region x = .echo) (v : Byte) : s.write x v = s.write (x - 0x2000) v := by
  rw [State.write_of_echo h, State.write_of_array (region_echoed h), toNat_echoed h]

end

/-! ### The obligations -/

/-- Settles O8: the region of each range, and the rules of that region. -/
theorem addressDecoderRoutes : Obligations.AddressDecoderRoutes := by
  intro s x v
  have array (h : backed x.toNat) :
      s.read x = s.mem.read x.toNat ∧ s.write x v = { s with mem := s.mem.write x.toNat v } :=
    have hr := (region_eq_array x).2 h
    ⟨State.read_of_array hr, State.write_of_array hr v⟩
  refine ⟨fun h => ?rom, fun h h' => array ?_, fun h h' => ?cartRam, fun h h' => array ?_,
    fun h h' => ?echo, fun h h' => array ?_, fun h h' => ?unmapped, fun h => ?ifByte,
    fun h h' hne => ?io, fun h h' => array ?_, fun h => ?ieByte⟩
  case rom =>
    have hr := (region_eq_rom x).2 h
    exact ⟨State.read_of_rom hr, State.write_of_rom hr v⟩
  case cartRam =>
    have hr := (region_eq_cartRam x).2 ⟨h, h'⟩
    exact ⟨State.read_of_cartRam hr, State.write_of_cartRam hr v⟩
  case echo =>
    have hr := (region_eq_echo x).2 ⟨h, h'⟩
    exact ⟨State.read_of_echo hr, State.write_of_echo hr v⟩
  case unmapped =>
    have hr := (region_eq_unmapped x).2 ⟨h, h'⟩
    exact ⟨State.read_of_unmapped hr, State.write_of_unmapped hr v⟩
  case ifByte =>
    have hr := (region_eq_ifByte x).2 h
    exact ⟨State.read_of_ifByte hr, State.write_of_ifByte hr v⟩
  case io =>
    have hr := (region_eq_io x).2 ⟨h, h', hne⟩
    exact ⟨(State.read_of_io hr).trans (io_getElem?_ioIndex hr s.io).symm, _, State.write_of_io hr v,
      io_getElem?_set_ioIndex hr s.io v⟩
  case ieByte =>
    have hr := (region_eq_ieByte x).2 h
    exact ⟨State.read_of_ieByte hr, State.write_of_ieByte hr v⟩
  all_goals omega

/-- Settles O9: an echo address acts as the address 0x2000 below, and every other address is its own home,
which is what keeps writes elsewhere apart. -/
theorem echoAliasesWorkRam : Obligations.EchoAliasesWorkRam := by
  intro s x v
  refine ⟨fun h h' => ?echo, fun h h' y hne => ?noAlias, fun h y hy hy' => ?above⟩
  case echo =>
    have hr := (region_eq_echo x).2 ⟨h, h'⟩
    have hself := State.read_write_self_of_array (s := s) (region_echoed hr) v
    refine ⟨?_, ?_, State.read_echo hr, State.write_echo hr v, ?_, ?_⟩
    · rw [toNat_echoed hr]; omega
    · rw [toNat_echoed hr]; omega
    · rwa [State.write_echo hr]
    · rwa [State.read_echo hr]
  case noAlias =>
    have hne : y.toNat ≠ x.toNat := fun e => hne (BitVec.eq_of_toNat_eq e)
    refine State.read_write_of_array_ne_home ((region_eq_array x).2 (by omega)) ?_ v
    unfold home
    split <;> omega
  case above =>
    have hx : region x ≠ .echo := fun e => absurd ((region_eq_echo x).1 e).2 (Nat.not_lt.2 h)
    refine State.read_write_of_array_ne_home ((region_eq_array y).2 (by omega)) ?_ v
    rw [home_of_not_echo hx]
    omega

end Sys2Proof.Machine
end

section
/-! The cartridge windows by banking scheme, and the obligations on them (R211, R220 to R228). -/
namespace Sys2Proof.Machine

section
variable {x : Word}

/-! ### The banking registers (R220 to R223) -/

theorem Banking.write_ramEnable (k : Banking) (h : x.toNat < 0x2000) (v : Byte) :
    k.write x v = { k with ramEnable := decide (v.toNat % 16 = 0xA) } := by
  have hv : (v.extractLsb' 0 4 == 0xA) = decide (v.toNat % 16 = 0xA) := by
    rw [Bool.eq_iff_iff, beq_iff_eq, decide_eq_true_iff, ← BitVec.toNat_inj, BitVec.extractLsb'_toNat]
    rfl
  rw [Banking.write, if_pos h, hv]

theorem Banking.write_romBankLow (k : Banking) (h : 0x2000 ≤ x.toNat) (h' : x.toNat < 0x4000)
    (v : Byte) :
    k.write x v = { k with romBankLow := if v.extractLsb' 0 5 = 0 then 1 else v.extractLsb' 0 5 } := by
  rw [Banking.write, if_neg (by omega), if_pos h']

theorem Banking.write_bankHigh (k : Banking) (h : 0x4000 ≤ x.toNat) (h' : x.toNat < 0x6000)
    (v : Byte) : k.write x v = { k with bankHigh := v.extractLsb' 0 2 } := by
  rw [Banking.write, if_neg (by omega), if_neg (by omega), if_pos h']

theorem Banking.write_bankMode (k : Banking) (h : 0x6000 ≤ x.toNat) (v : Byte) :
    k.write x v = { k with bankMode := if v.toNat % 2 = 0 then .romBanking else .ramBanking } := by
  have hv : (v.getLsbD 0 = true) ↔ ¬v.toNat % 2 = 0 := by
    rw [BitVec.getLsbD, Nat.testBit_zero, decide_eq_true_iff]
    omega
  rw [Banking.write, if_neg (by omega), if_neg (by omega), if_neg (by omega)]
  simp only [hv, ite_not]

/-- The zero test of the low selector is on the five bits it keeps (R221). -/
theorem toNat_romBankLow (v : Byte) :
    (if v.extractLsb' 0 5 = 0 then 1 else v.extractLsb' 0 5 : BitVec 5).toNat =
      if v.toNat % 32 = 0 then 1 else v.toNat % 32 := by
  have hv : (v.extractLsb' 0 5).toNat = v.toNat % 32 := BitVec.extractLsb'_toNat 0 5 v
  have hz : v.extractLsb' 0 5 = 0 ↔ v.toNat % 32 = 0 := by
    rw [← hv, ← BitVec.toNat_inj]
    rfl
  simp only [hz, apply_ite BitVec.toNat, hv]
  rfl

theorem toNat_bankHigh (v : Byte) : (v.extractLsb' 0 2).toNat = v.toNat % 4 :=
  BitVec.extractLsb'_toNat 0 2 v

theorem State.write_of_mbc1 {s : State} {c : Cartridge} (hc : s.cart = some c)
    (hs : c.scheme = .mbc1) (hx : x.toNat < 0x8000) (v : Byte) :
    s.write x v = { s with bank := s.bank.write x v } := by
  rw [State.write_of_rom ((region_eq_rom x).2 hx), State.writeROM_of_mbc1 hc hs]

/-! ### No controller (R211) -/

theorem State.mappedRam_of_no_mbc1 {s : State} {c : Cartridge} (hc : s.cart = some c)
    (hs : c.scheme = .none) (x : Word) : s.mappedRam x = none := by
  simp only [State.mappedRam, hc, hs]

theorem romOffset_of_no_mbc1 {c : Cartridge} (hs : c.scheme = .none) (k : Banking) (x : Word) :
    romOffset c k x = x.toNat := by
  simp only [romOffset, hs]

theorem State.readROM_of_cart {s : State} {c : Cartridge} (hc : s.cart = some c) (x : Word) :
    s.readROM x = c.rom.read (romOffset c s.bank x) := by
  simp only [State.readROM, hc]

/-- The cartridge RAM window where it reaches no byte (R211, R228). -/
theorem State.access_of_mappedRam_none {s : State} (hx : region x = .cartRam) (h : s.mappedRam x = none)
    (v : Byte) : s.read x = some 0xFF ∧ s.write x v = s := by
  rw [State.read_of_cartRam hx, State.write_of_cartRam hx]
  exact ⟨State.readRAM_of_none h, State.writeRAM_of_none h v⟩

/-! ### The MBC1 windows (R224 to R228) -/

/-- The bank of the upper ROM window (R224): its two fields keep it below 128. -/
theorem Banking.romBank_bounds {k : Banking} (h : k.romBankLow ≠ 0) :
    1 ≤ k.romBank ∧ k.romBank ≤ 127 := by
  have hlow : k.romBankLow.toNat ≠ 0 := fun e => h (BitVec.eq_of_toNat_eq e)
  have := k.romBankLow.isLt
  have := k.bankHigh.isLt
  unfold Banking.romBank
  split <;> omega

theorem romOffset_lower {c : Cartridge} (hs : c.scheme = .mbc1) (k : Banking) (h : x.toNat < 0x4000) :
    romOffset c k x = x.toNat := by
  simp only [romOffset, hs, if_pos h]

theorem romOffset_upper {c : Cartridge} (hs : c.scheme = .mbc1) (k : Banking) (h : 0x4000 ≤ x.toNat) :
    romOffset c k x = k.romBank * 0x4000 + (x.toNat - 0x4000) := by
  simp only [romOffset, hs, if_neg (Nat.not_lt.2 h)]

theorem RomImage.read_eq_ite (r : RomImage) (off : Nat) :
    r.read off = if off < r.size then r.read off else 0xFF := by
  unfold RomImage.read
  split <;> rfl

theorem State.mappedRam_eq_none {s : State}
    (h : ∀ c r, s.cart = some c → c.ram = some r → s.bank.ramEnable = true →
      r.size ≤ ramOffset s.bank x) : s.mappedRam x = none := by
  rw [Option.eq_none_iff_forall_ne_some]
  rintro ⟨c, r, off⟩ hm
  obtain ⟨hc, -, hr, he, hoff, hlt⟩ := State.mappedRam_eq_some.1 hm
  rw [hoff] at hlt
  exact (h c r hc hr he).not_gt hlt

end

/-! ### The obligations -/

/-- Settles O12: below 0x8000 a write is a write of the banking registers, which has a rule for each of the
four ranges. -/
theorem bankingRegisterWrites : Obligations.BankingRegisterWrites := by
  intro s c x v hc hs
  have write (hx : x.toNat < 0x8000) := State.write_of_mbc1 hc hs hx v
  refine ⟨fun h => ?_, fun h h' => ⟨_, ?_, toNat_romBankLow v⟩, fun h h' => ⟨_, ?_, toNat_bankHigh v⟩,
    fun h h' => ?_⟩
  · rw [write (by omega), Banking.write_ramEnable _ h]
  · rw [write (by omega), Banking.write_romBankLow _ h h']
  · rw [write (by omega), Banking.write_bankHigh _ h h']
  · rw [write h', Banking.write_bankMode _ h]

/-- Settles O13: with scheme None no offset is banked and no RAM is mapped. -/
theorem noControllerCartridge : Obligations.NoControllerCartridge := by
  intro s c x v hc hs
  refine ⟨fun h => ?rom, fun h h' => ?ram⟩
  case rom =>
    have hr := (region_eq_rom x).2 h
    have hnone : ∀ d, s.cart = some d → d.scheme = .none := fun d hd =>
      Option.some.inj (hc.symm.trans hd) ▸ hs
    rw [State.read_of_rom hr, State.readROM_of_cart hc, romOffset_of_no_mbc1 hs, State.write_of_rom hr]
    exact ⟨rfl, State.writeROM_of_no_mbc1 hnone x v⟩
  case ram =>
    exact State.access_of_mappedRam_none ((region_eq_cartRam x).2 ⟨h, h'⟩)
      (State.mappedRam_of_no_mbc1 hc hs x) v

/-- Settles O14: the banks as the statement writes them are the model's `romBank` and `ramBank`; the windows
then follow from the offset each reads, and from when RAM is mapped. -/
theorem mbc1Windows : Obligations.Mbc1Windows := by
  intro s c x v hc hs romBank ramBank
  have hrom : romBank = s.bank.romBank := rfl
  have hram : ramBank = s.bank.ramBank := rfl
  clear_value romBank ramBank
  subst hrom hram
  refine ⟨Banking.romBank_bounds, fun h => ?lower, fun h h' => ?upper, fun h h' => ?ram⟩
  case lower =>
    rw [State.read_of_rom ((region_eq_rom x).2 (by omega)), State.readROM_of_cart hc,
      romOffset_lower hs _ h]
  case upper =>
    rw [State.read_of_rom ((region_eq_rom x).2 h'), State.readROM_of_cart hc, romOffset_upper hs _ h,
      RomImage.read_eq_ite]
  case ram =>
    have hx := (region_eq_cartRam x).2 ⟨h, h'⟩
    refine ⟨fun hclosed => ?unreachable, fun r he hr => ⟨fun hle => ?past, fun hlt => ?mapped⟩⟩
    case unreachable =>
      refine State.access_of_mappedRam_none hx (State.mappedRam_eq_none fun d r hd hr he => ?_) v
      obtain rfl : c = d := Option.some.inj (hc.symm.trans hd)
      rcases hclosed with hdis | habs
      · exact absurd (hdis.symm.trans he) (by decide)
      · exact absurd (habs.symm.trans hr) (by simp)
    case past =>
      refine State.access_of_mappedRam_none hx (State.mappedRam_eq_none fun d q hd hq _ => ?_) v
      obtain rfl : c = d := Option.some.inj (hc.symm.trans hd)
      obtain rfl : r = q := Option.some.inj (hr.symm.trans hq)
      exact hle
    case mapped =>
      have hm := State.mappedRam_eq_some.2 ⟨hc, hs, hr, he, rfl, hlt⟩
      rw [State.read_of_cartRam hx, State.write_of_cartRam hx]
      exact ⟨State.readRAM_of_some hm, State.writeRAM_of_some hm v⟩

end Sys2Proof.Machine
end

section
/-! The obligation on the length of an instruction and on words read from the grids (R303, R320, R322). -/
namespace Sys2Proof

/-- Settles O59: R303 gives the lengths as a table, so they are checked over the 256 first bytes; each word is
decoded by the form of its first byte. -/
theorem lengthsAndDecodedWords : Obligations.LengthsAndDecodedWords := by
  refine ⟨?lengths, ?ld_B_C, ?ld_SP_nn, ?adc_A_E, ?add_HL_BC, ?swap_A, ?bit_7_atHL, ?jr_NZ_e, ?halt, ?stop,
    ?illegal_D3⟩
  case lengths => decide
  case ld_B_C | adc_A_E | add_HL_BC | halt | illegal_D3 => exact decode_op rfl []
  case jr_NZ_e | stop => exact decode_imm8 rfl _ []
  case ld_SP_nn => exact decode_imm16 rfl 0xFFFE []
  case swap_A => exact decode_extended 0x37 []
  case bit_7_atHL => exact decode_extended 0x7E []

end Sys2Proof
end

section
/-! The 8-bit loads: what each form answers where its byte was written and where not, and the obligations on
them (R401 to R419). -/
namespace Sys2Proof.Machine
open Sys2Proof.Claims

/-! ### The encodings by operand code (R310, R321) -/

theorem encode_ldReg (dst r : Reg8) :
    encode (Instr.ldReg dst r) = [0b01#2 ++ regCode dst ++ regCode r] := by
  cases dst <;> cases r <;> rfl

theorem encode_ldImm (dst : Reg8) (n : Byte) :
    encode (Instr.ldImm dst n) = [0b00#2 ++ regCode dst ++ 0b110#3, n] := by
  cases dst <;> rfl

theorem encode_ldFromHL (dst : Reg8) :
    encode (Instr.ldFromHL dst) = [0b01#2 ++ regCode dst ++ 0b110#3] := by
  cases dst <;> rfl

theorem encode_ldToHL (r : Reg8) :
    encode (Instr.ldToHL r) = [0b01#2 ++ 0b110#3 ++ regCode r] := by
  cases r <;> rfl

/-! ### The shared operations -/

theorem State.setReg_reg_self (s : State) (r : Reg8) : s.setReg r (s.reg r) = s := by
  cases r <;> rfl

@[simp] theorem State.hl_setHL (s : State) (v : Word) : (s.setHL v).hl = v :=
  wordOf_highByte_lowByte v

/-- The model's stop at an unwritten byte is the one the statements describe (R841). -/
theorem State.memRead_eq_stoppedAt {s : State} {x : Word} (h : s.read x = none) (k : Byte → Result) :
    s.memRead x k = .next (stoppedAt s x) :=
  State.memRead_of_none h k

theorem highPage_eq_add (n : Byte) : highPage n = 0xFF00 + n.setWidth 16 := by
  have value : (highPage n).toNat = 0xFF * 256 + n.toNat := toNat_wordOf 0xFF n
  bv_omega

/-- A load and a store of A at one address (R406 to R415). -/
theorem exec_accumulator_at {s : State} {ld st : Instr} {x : Word} (hld : exec ld s = loadA x s)
    (hst : exec st s = storeA x s) :
    (∀ v, s.read x = some v → exec ld s = .next { s with a := v }) ∧
      (s.read x = none → exec ld s = .next (stoppedAt s x)) ∧
      exec st s = .next (s.write x s.a) := by
  rw [hld]
  exact ⟨fun _ h => State.memRead_of_some h _, fun h => State.memRead_eq_stoppedAt h _, hst⟩

/-- A store and a load of A at HL, each of which moves HL by `d` afterwards (R416 to R419). -/
theorem exec_stepping_by {s : State} {st ld : Instr} {d : Word} (hst : exec st s = storeAStep d s)
    (hld : exec ld s = loadAStep d s) :
    (∃ t, exec st s = .next t ∧ t.hl = s.hl + d ∧
      t = { s.write s.hl s.a with h := highByte (s.hl + d), l := lowByte (s.hl + d) }) ∧
    (∀ v, s.read s.hl = some v → ∃ t, exec ld s = .next t ∧ t.hl = s.hl + d ∧
      t = { s with a := v, h := highByte (s.hl + d), l := lowByte (s.hl + d) }) ∧
    (s.read s.hl = none → exec ld s = .next (stoppedAt s s.hl)) := by
  rw [hst, hld]
  exact ⟨⟨_, rfl, State.hl_setHL _ _, rfl⟩,
    fun _ h => ⟨_, State.memRead_of_some h _, State.hl_setHL _ _, rfl⟩,
    fun h => State.memRead_eq_stoppedAt h _⟩

/-! ### The obligations -/

/-- Settles O17: the meaning of each form is the shared operation, and a register written with its own byte
is unchanged. -/
theorem loadRegister : Obligations.LoadRegister := by
  refine ⟨encode_ldReg, encode_ldImm, fun s dst => ⟨fun r => exec_ldReg dst r s, fun r => ?same,
    fun n => exec_ldImm dst n s⟩⟩
  case same => rw [exec_ldReg, loadReg, State.setReg_reg_self]

/-- Settles O18: a load at HL goes on with the byte or stops; a store at HL always answers the write. -/
theorem loadAndStoreAtHL : Obligations.LoadAndStoreAtHL := by
  refine ⟨encode_ldFromHL, encode_ldToHL, fun _ => rfl, fun s => ⟨fun dst v h => ?read, fun dst h => ?stop,
    fun r => exec_ldToHL r s, fun n => exec_ld_atHL_n n s⟩⟩
  case read => rw [exec_ldFromHL, loadFromHL, State.memRead_of_some h]
  case stop => rw [exec_ldFromHL, loadFromHL, State.memRead_eq_stoppedAt h]

/-- Settles O19: five pairs of instructions, each a load and a store of A at one address. -/
theorem loadAndStoreAccumulator : Obligations.LoadAndStoreAccumulator := by
  refine ⟨rfl, rfl, rfl, rfl, fun _ => ⟨rfl, rfl⟩, fun _ => ⟨rfl, rfl⟩, rfl, rfl, fun s nn n => ?_⟩
  simp only [← highPage_eq_add, List.forall_mem_cons]
  exact ⟨exec_accumulator_at (exec_ld_A_atBC s) (exec_ld_atBC_A s),
    exec_accumulator_at (exec_ld_A_atDE s) (exec_ld_atDE_A s),
    exec_accumulator_at (exec_ld_A_atNn nn s) (exec_ld_atNn_A nn s),
    exec_accumulator_at (exec_ldh_A_atN n s) (exec_ldh_atN_A n s),
    exec_accumulator_at (exec_ld_A_atC s) (exec_ld_atC_A s), List.forall_mem_nil _⟩

/-- Settles O20: the two pairs of instructions step HL by 1 and by -1. -/
theorem loadAndStoreSteppingHL : Obligations.LoadAndStoreSteppingHL := by
  refine ⟨rfl, rfl, rfl, rfl, fun s => ?_⟩
  simp only [List.forall_mem_cons, BitVec.sub_eq_add_neg]
  exact ⟨exec_stepping_by (exec_ld_atHLinc_A s) (exec_ld_A_atHLinc s),
    exec_stepping_by (exec_ld_atHLdec_A s) (exec_ld_A_atHLdec s), List.forall_mem_nil _⟩

end Sys2Proof.Machine
end

section
/-! The 16-bit loads and the stack transfers: a push and a pop as whole-state equations in the statements' own
terms, and the obligations on them (R450 to R455). -/
namespace Sys2Proof.Machine
open Sys2Proof.Claims

/-! ### The encodings by pair code (R311, R312, R321) -/

theorem encode_ldPair (p : RegPair) (nn : Word) :
    encode (Instr.ldPair p nn) = [0b00#2 ++ pairCode p ++ 0b0001#4, lowByte nn, highByte nn] := by
  cases p <;> rfl

theorem encode_push (p : StackPair) : encode (Instr.push p) = [0b11#2 ++ stackCode p ++ 0b0101#4] := by
  cases p <;> rfl

theorem encode_pop (p : StackPair) : encode (Instr.pop p) = [0b11#2 ++ stackCode p ++ 0b0001#4] := by
  cases p <;> rfl

/-! ### `push16` and `pop16` (R15) -/

/-- The model's push is the one the statements describe: SP goes down twice by 1, that is by 2. -/
theorem State.push16_eq_pushed (s : State) (v : Word) : s.push16 v = pushed s v := by
  have down : s.sp - 1 - 1 = s.sp - 2 := by bv_omega
  rw [State.push16_eq, down, pushed]

/-- A pop of two written bytes goes on with SP up by 2. -/
theorem State.pop16_of_read {s : State} {lo hi : Byte} (hlo : s.read s.sp = some lo)
    (hhi : s.read (s.sp + 1) = some hi) (k : Word → State → Result) :
    s.pop16 k = k (wordOf hi lo) { s with sp := s.sp + 2 } := by
  have up : s.sp + 1 + 1 = s.sp + 2 := by bv_omega
  rw [State.pop16_of_some hlo hhi, up]

theorem State.pop16_of_low_none {s : State} (h : s.read s.sp = none) (k : Word → State → Result) :
    s.pop16 k = .next (stoppedAt s s.sp) :=
  State.memRead_eq_stoppedAt h _

theorem State.pop16_of_high_none {s : State} (hlo : s.read s.sp ≠ none) (hhi : s.read (s.sp + 1) = none)
    (k : Word → State → Result) :
    s.pop16 k = .next (stoppedAt { s with sp := s.sp + 1 } (s.sp + 1)) := by
  obtain ⟨lo, hlo⟩ := Option.ne_none_iff_exists'.1 hlo
  have high : ({ s with sp := s.sp + 1 } : State).read (s.sp + 1) = none := hhi
  rw [State.pop16, State.memRead_of_some hlo, State.memRead_eq_stoppedAt high]

/-- `POP rr` of two written bytes (R454, R455). -/
theorem exec_pop_of_read {s : State} {lo hi : Byte} (hlo : s.read s.sp = some lo)
    (hhi : s.read (s.sp + 1) = some hi) (p : StackPair) :
    exec (Instr.pop p) s = .next ({ s with sp := s.sp + 2 }.setStackPair p (wordOf hi lo)) := by
  rw [exec_pop, popPair, State.pop16_of_read hlo hhi]

/-! ### The obligations -/

/-- Settles O21: each form is one shared operation, which writes what the rule says. -/
theorem loadPairs : Obligations.LoadPairs :=
  ⟨encode_ldPair, fun _ => rfl, rfl,
    fun s nn => ⟨fun p => exec_ldPair p nn s, exec_ld_atNn_SP nn s, exec_ld_SP_HL s⟩⟩

/-- Settles O22: `PUSH rr` is `Push16` of the pair. -/
theorem pushStoresThePair : Obligations.PushStoresThePair := by
  refine ⟨encode_push, fun s p => ?_⟩
  rw [exec_push, pushPair, State.push16_eq_pushed]

/-- Settles O23: with both bytes written each pair takes high:low; the stop is that of `Pop16`, whichever
pair is popped. -/
theorem popLoadsThePair : Obligations.PopLoadsThePair := by
  refine ⟨encode_pop, fun s => ⟨fun lo hi hlo hhi => ?written,
    fun p => ⟨fun h => ?low, fun hlo hhi => ?high⟩⟩⟩
  case written =>
    have popped := exec_pop_of_read hlo hhi
    simp only [State.setStackPair, State.setHL, highByte_wordOf, lowByte_wordOf] at popped
    exact ⟨popped .bc, popped .de, popped .hl, popped .af⟩
  case low => rw [exec_pop, popPair, State.pop16_of_low_none h]
  case high => rw [exec_pop, popPair, State.pop16_of_high_none hlo hhi]

end Sys2Proof.Machine
end

section
/-! The 8-bit arithmetic and logic: the flag engine in numbers, the three operand forms of an ALU operation,
and the obligations on them (R500 to R541). -/
namespace Sys2Proof.Machine
open Sys2Proof.Claims

/-! ### The encodings by operation and register code (R310, R314, R321) -/

theorem encode_aluReg (op : AluOp) (r : Reg8) :
    encode (Instr.aluReg op r) = [0b10#2 ++ aluCode op ++ regCode r] := by
  cases op <;> cases r <;> rfl

theorem encode_aluHL (op : AluOp) : encode (Instr.aluHL op) = [0b10#2 ++ aluCode op ++ 0b110#3] := by
  cases op <;> rfl

theorem encode_aluImm (op : AluOp) (n : Byte) :
    encode (Instr.aluImm op n) = [0b11#2 ++ aluCode op ++ 0b110#3, n] := by
  cases op <;> rfl

theorem encode_incReg (r : Reg8) : encode (Instr.incReg r) = [0b00#2 ++ regCode r ++ 0b100#3] := by
  cases r <;> rfl

theorem encode_decReg (r : Reg8) : encode (Instr.decReg r) = [0b00#2 ++ regCode r ++ 0b101#3] := by
  cases r <;> rfl

/-! ### The flag engine in numbers (R500 to R504, R534, R536, R538) -/

/-- The zero flag of an 8-bit result, in terms of the number the result is. -/
theorem zeroFlag_iff {v : Byte} {n : Nat} (h : v.toNat = n) : (v == 0) = true ↔ n = 0 := by
  rw [beq_iff_eq, ← BitVec.toNat_inj, h]
  rfl

theorem toNat_add8 (a v : Byte) (cin : Bool) :
    (add8 a v cin).1.toNat = (a.toNat + v.toNat + bit cin) % 256 :=
  BitVec.toNat_ofNat _ 8

theorem toNat_sub8 (a v : Byte) (bin : Bool) :
    ((sub8 a v bin).1.toNat : Int) = ((a.toNat : Int) - v.toNat - bit bin) % 256 := by
  have := a.isLt
  have := v.isLt
  have : bit bin ≤ 1 := by cases bin <;> decide
  simp only [sub8, BitVec.toNat_sub, BitVec.toNat_ofNat]
  omega

theorem borrowFlags_sub8 (a v : Byte) (bin : Bool) :
    borrowFlags a.toNat v.toNat (bit bin) (sub8 a v bin).2 := by
  refine ⟨?zero, rfl, decide_eq_true_iff, decide_eq_true_iff⟩
  case zero =>
    rw [← toNat_sub8, Int.natCast_eq_zero]
    exact zeroFlag_iff rfl

theorem increments_inc8 (v : Byte) (f : Flags) : increments v (inc8 v f).1 f (inc8 v f).2 := by
  have value : (v + 1).toNat = (v.toNat + 1) % 256 := BitVec.toNat_add v 1
  exact ⟨value, zeroFlag_iff value, rfl, decide_eq_true_iff, rfl⟩

theorem decrements_dec8 (v : Byte) (f : Flags) : decrements v (dec8 v f).1 f (dec8 v f).2 := by
  have value : (v - 1).toNat = (v.toNat + 255) % 256 := by
    rw [BitVec.toNat_sub, Nat.add_comm]
    rfl
  exact ⟨value, zeroFlag_iff value, rfl, decide_eq_true_iff, rfl⟩

/-- What DAA writes for an unwrapped value and a carry (R538). -/
def daaResult (f : Flags) (p : Int × Bool) : Byte × Flags :=
  (BitVec.ofInt 8 p.1, { z := BitVec.ofInt 8 p.1 == 0, n := f.n, h := false, c := p.2 })

/-- The model's corrections of DAA are those of `daaValue`: the same tests decide them, on integers in the
model and on naturals after an addition in the statement. -/
theorem daa_eq_daaResult (a : Byte) (f : Flags) : daa a f = daaResult f (daaValue a.toNat f) := by
  refine congrArg (daaResult f) ?_
  simp only [daaValue, lowNibble]
  cases f.n
  case true => cases f.h <;> cases f.c <;> simp
  case false => cases f.c <;> grind

theorem toNat_daa (a : Byte) (f : Flags) :
    ((daa a f).1.toNat : Int) = (daaValue a.toNat f).1 % 256 := by
  rw [daa_eq_daaResult, daaResult, BitVec.toNat_ofInt]
  exact Int.toNat_of_nonneg (Int.emod_nonneg _ (by decide))

/-! ### The shared operations -/

/-- The three forms of an ALU operation are one operation on A and a byte (R505), so they have every effect
that it has. -/
theorem aluForms_of_effect {op : AluOp} {effect : Byte → State → State → Prop}
    (h : ∀ v s, effect v s { s with a := (alu op s.a v s.f).1, f := (alu op s.a v s.f).2 }) :
    aluForms op effect := by
  refine ⟨encode_aluReg op, encode_aluHL op, encode_aluImm op, fun r s => ⟨_, exec_aluReg op r s, h _ s⟩,
    fun n s => ⟨_, exec_aluImm op n s, h n s⟩, fun v s hv => ⟨_, ?read, h v s⟩, fun s hv => ?stop⟩
  case read => rw [exec_aluHL, aluOnHL, State.memRead_of_some hv, aluOnByte]
  case stop => rw [exec_aluHL, aluOnHL, State.memRead_eq_stoppedAt hv]

theorem adds_add8 (cin : Bool) (v : Byte) (s : State) :
    adds (bit cin) v s { s with a := (add8 s.a v cin).1, f := (add8 s.a v cin).2 } :=
  ⟨_, _, rfl, toNat_add8 s.a v cin, zeroFlag_iff (toNat_add8 s.a v cin), rfl, decide_eq_true_iff,
    decide_eq_true_iff⟩

theorem subtracts_sub8 (bin : Bool) (v : Byte) (s : State) :
    subtracts (bit bin) v s { s with a := (sub8 s.a v bin).1, f := (sub8 s.a v bin).2 } :=
  ⟨_, _, rfl, toNat_sub8 s.a v bin, borrowFlags_sub8 s.a v bin⟩

theorem compares_sub8 (v : Byte) (s : State) : compares v s { s with f := (sub8 s.a v false).2 } :=
  ⟨_, rfl, borrowFlags_sub8 s.a v false⟩

theorem logicResult_zeroFlag (r : Byte) (h : Bool) (s : State) :
    logicResult r h s { s with a := r, f := { z := r == 0, n := false, h := h, c := false } } :=
  ⟨_, rfl, zeroFlag_iff rfl⟩

theorem State.setReg_with_flags (s : State) (r : Reg8) (v : Byte) (f : Flags) :
    { s with f := f }.setReg r v = { s.setReg r v with f := f } := by
  cases r <;> rfl

end Sys2Proof.Machine

namespace Sys2Proof
open Sys2Proof.Machine

/-! ### The obligations -/

/-- Settles O25: ADC is ADD with the carry flag as its carry in. -/
theorem addWithAndWithoutCarry : Obligations.AddWithAndWithoutCarry :=
  ⟨aluForms_of_effect fun v s => adds_add8 false v s, aluForms_of_effect fun v s => adds_add8 s.f.c v s⟩

/-- Settles O26: SBC is SUB with the carry flag as its borrow in, and CP is SUB that keeps A. -/
theorem subtractAndCompare : Obligations.SubtractAndCompare :=
  ⟨aluForms_of_effect fun v s => subtracts_sub8 false v s,
    aluForms_of_effect fun v s => subtracts_sub8 s.f.c v s, aluForms_of_effect compares_sub8⟩

/-- Settles O29: DAA writes the corrected value modulo 256 and the carry of `daaValue`. -/
theorem decimalAdjust : Obligations.DecimalAdjust := by
  refine ⟨rfl, fun s => ⟨(daa s.a s.f).1, (daa s.a s.f).1 == 0, ?next, toNat_daa s.a s.f,
    zeroFlag_iff rfl⟩⟩
  case next => rw [exec_daa, Machine.decimalAdjust, daa_eq_daaResult, daaResult]

/-- Settles O27: each operation writes its bitwise result and flags of one shape. -/
theorem bitwiseLogic : Obligations.BitwiseLogic :=
  ⟨aluForms_of_effect fun v s => logicResult_zeroFlag (s.a &&& v) true s,
    aluForms_of_effect fun v s => logicResult_zeroFlag (s.a ||| v) false s,
    aluForms_of_effect fun v s => logicResult_zeroFlag (s.a ^^^ v) false s⟩

/-- Settles O28: INC and DEC of a register and of the byte at HL write what `inc8` and `dec8` give. -/
theorem incrementAndDecrement : Obligations.IncrementAndDecrement := by
  refine ⟨encode_incReg, encode_decReg, rfl, rfl, fun s => ⟨fun r => ?inc, fun r => ?dec,
    fun m hm => ⟨?incHL, ?decHL⟩, fun hm => ⟨?incStop, ?decStop⟩⟩⟩
  case inc =>
    refine ⟨_, _, ?_, increments_inc8 (s.reg r) s.f⟩
    rw [exec_incReg, incrementReg, State.setReg_with_flags]
  case dec =>
    refine ⟨_, _, ?_, decrements_dec8 (s.reg r) s.f⟩
    rw [exec_decReg, decrementReg, State.setReg_with_flags]
  case incHL =>
    refine ⟨_, _, ?_, increments_inc8 m s.f⟩
    rw [exec_inc_atHL, incrementHL, State.memRead_of_some hm]
  case decHL =>
    refine ⟨_, _, ?_, decrements_dec8 m s.f⟩
    rw [exec_dec_atHL, decrementHL, State.memRead_of_some hm]
  case incStop => rw [exec_inc_atHL, incrementHL, State.memRead_eq_stoppedAt hm]
  case decStop => rw [exec_dec_atHL, decrementHL, State.memRead_eq_stoppedAt hm]

/-- Settles O30: SCF and CCF are their rules; the complement of A is 255 minus A. -/
theorem complementAndCarry : Obligations.ComplementAndCarry := by
  refine ⟨rfl, rfl, rfl, fun s => ⟨⟨~~~s.a, exec_cpl s, ?value⟩, exec_scf s, exec_ccf s⟩⟩
  case value =>
    have := s.a.isLt
    rw [BitVec.toNat_not]
    omega

end Sys2Proof
end

section
/-! The 16-bit arithmetic: the sums of the flag engine in numbers, and the obligations on it (R550 to R556). -/
namespace Sys2Proof.Machine
open Sys2Proof.Claims

/-! ### The encodings by pair code (R311, R321) -/

theorem encode_addHL (p : RegPair) : encode (Instr.addHL p) = [0b00#2 ++ pairCode p ++ 0b1001#4] := by
  cases p <;> rfl

theorem encode_incPair (p : RegPair) : encode (Instr.incPair p) = [0b00#2 ++ pairCode p ++ 0b0011#4] := by
  cases p <;> rfl

theorem encode_decPair (p : RegPair) : encode (Instr.decPair p) = [0b00#2 ++ pairCode p ++ 0b1011#4] := by
  cases p <;> rfl

/-! ### The flag engine in numbers (R550, R551) -/

theorem toNat_add16 (a b : Word) (f : Flags) : (add16 a b f).1.toNat = (a.toNat + b.toNat) % 65536 :=
  BitVec.toNat_ofNat _ 16

/-- The displacement is the signed byte modulo 2^16. -/
theorem toNat_displacement (e : Byte) : ((displacement e).toNat : Int) = e.toInt % 65536 := by
  rw [displacement, BitVec.signExtend, BitVec.toNat_ofInt]
  exact Int.toNat_of_nonneg (Int.emod_nonneg _ (by decide))

theorem toNat_addSPe (sp : Word) (e : Byte) :
    ((addSPe sp e).1.toNat : Int) = ((sp.toNat : Int) + e.toInt) % 65536 := by
  have sum : (addSPe sp e).1.toNat = (sp.toNat + (displacement e).toNat) % 65536 := BitVec.toNat_add sp _
  have := toNat_displacement e
  omega

/-- The result takes the signed byte and the carries the unsigned one. -/
theorem displaces_addSPe (sp : Word) (e : Byte) : displaces sp e (addSPe sp e).1 (addSPe sp e).2 :=
  ⟨toNat_addSPe sp e, rfl, rfl, decide_eq_true_iff, decide_eq_true_iff⟩

/-! ### The obligations -/

/-- Settles O31: ADD HL,rr is `add16`; the two forms with SP share one sum and its flags. -/
theorem sixteenBitAddition : Obligations.SixteenBitAddition := by
  refine ⟨encode_addHL, fun _ => rfl, fun _ => rfl, fun s => ⟨fun p => ?addHL, fun e => ?addSPe⟩⟩
  case addHL =>
    exact ⟨_, _, exec_addHL p s, toNat_add16 s.hl (s.pair p) s.f, rfl, rfl, decide_eq_true_iff,
      decide_eq_true_iff⟩
  case addSPe => exact ⟨_, _, displaces_addSPe s.sp e, exec_add_SP_e e s, exec_ld_HL_SPe e s⟩

/-- Settles O32: the pair is written with its value plus or minus 1 as a word, and minus 1 is plus 65535. -/
theorem incrementAndDecrementPairs : Obligations.IncrementAndDecrementPairs := by
  refine ⟨encode_incPair, encode_decPair, fun s p =>
    ⟨⟨_, exec_incPair p s, BitVec.toNat_add (s.pair p) 1⟩, ⟨_, exec_decPair p s, ?down⟩⟩⟩
  case down =>
    rw [BitVec.toNat_sub, Nat.add_comm]
    rfl

end Sys2Proof.Machine
end

section
/-! The rotates and shifts: the shift unit as fields of the operand, and the obligations on it (R600 to R620). -/
namespace Sys2Proof.Machine
open Sys2Proof.Claims

/-! ### The encodings by operation and register code (R310, R315, R321) -/

theorem encode_shiftReg (op : ShiftOp) (r : Reg8) :
    encode (Instr.shiftReg op r) = [0xCB, 0b00#2 ++ shiftCode op ++ regCode r] := by
  cases op <;> cases r <;> rfl

theorem encode_shiftHL (op : ShiftOp) :
    encode (Instr.shiftHL op) = [0xCB, 0b00#2 ++ shiftCode op ++ 0b110#3] := by
  cases op <;> rfl

/-! ### Fields side by side -/

theorem append_zero_or_zero_append {w v : Nat} (x : BitVec w) (y : BitVec v) :
    (x ++ 0#v) ||| (0#w ++ y) = x ++ y := by
  rw [BitVec.or_append, BitVec.or_zero, BitVec.zero_or]

theorem zero_append_or_append_zero {w v : Nat} (x : BitVec w) (y : BitVec v) :
    (0#w ++ y) ||| (x ++ 0#v) = x ++ y := by
  rw [BitVec.or_comm, append_zero_or_zero_append]

/-- A mask of the high field keeps that field. -/
theorem and_allOnes_append_zero {w v : Nat} (x : BitVec (w + v)) :
    x &&& (BitVec.allOnes w ++ 0#v) = x.extractLsb' v w ++ 0#v := by
  conv_lhs => rw [← BitVec.extractLsb'_append_extractLsb' (x := x)]
  rw [BitVec.and_append, BitVec.and_allOnes, BitVec.and_zero]

/-! ### The shift unit (R600) -/

/-- The model joins the two fields of a result by OR, each shifted to its place; the statements write them
side by side. -/
theorem shift_fst (op : ShiftOp) (v : Byte) (cin : Bool) : (shift op v cin).1 = shifted op v cin := by
  have up {n : Nat} (hn : n < 8) := BitVec.shiftLeft_eq_concat_of_lt (x := v) hn
  have down {n : Nat} (hn : n < 8) := BitVec.ushiftRight_eq_extractLsb'_of_lt (x := v) hn
  have carryLow : BitVec.ofNat 8 (bit cin) = 0#7 ++ BitVec.ofBool cin := by cases cin <;> rfl
  have carryHigh : BitVec.ofNat 8 (bit cin) <<< 7 = BitVec.ofBool cin ++ 0#7 := by cases cin <;> rfl
  have sign : v &&& 0x80 = v.extractLsb' 7 1 ++ 0#7 := and_allOnes_append_zero (w := 1) (v := 7) v
  cases op with
  | rlc | rl | swap =>
    simp only [shift, up, down, carryLow, Nat.reduceLT]
    exact append_zero_or_zero_append _ _
  | rrc | rr | sra =>
    simp only [shift, up, down, carryHigh, sign, Nat.reduceLT]
    exact zero_append_or_append_zero _ _
  | sla => exact up (by decide)
  | srl => exact down (by decide)

/-- The unit's result and the bit it shifts out. -/
theorem shift_eq (op : ShiftOp) (v : Byte) (cin : Bool) :
    shift op v cin = (shifted op v cin, shiftedOut op v) :=
  Prod.ext (shift_fst op v cin) (by cases op <;> rfl)

/-- The flags of the extended page, with Z from the result. -/
theorem shiftFlags_eq_shiftWrites (op : ShiftOp) (v : Byte) (cin : Bool) :
    shiftFlags (shifted op v cin == 0) (shiftedOut op v) = shiftWrites op v cin := by
  have zero : (shifted op v cin == 0) = decide ((shifted op v cin).toNat = 0) :=
    Bool.eq_iff_iff.2 ((zeroFlag_iff rfl).trans decide_eq_true_iff.symm)
  rw [zero, shiftFlags, shiftWrites]

/-! ### The shared operations -/

theorem rotateA_eq (op : ShiftOp) (s : State) :
    rotateA op s = .next { s with
      a := shifted op s.a s.f.c
      f := { z := false, n := false, h := false, c := shiftedOut op s.a } } := by
  rw [rotateA, shift_eq, shiftFlags]

theorem shiftOnReg_eq (op : ShiftOp) (r : Reg8) (s : State) :
    shiftOnReg op r s =
      .next { s.setReg r (shifted op (s.reg r) s.f.c) with f := shiftWrites op (s.reg r) s.f.c } := by
  simp only [shiftOnReg, shift_eq, shiftFlags_eq_shiftWrites, State.setReg_with_flags]

theorem shiftOnHL_of_read {s : State} {v : Byte} (h : s.read s.hl = some v) (op : ShiftOp) :
    shiftOnHL op s =
      .next { s.write s.hl (shifted op v s.f.c) with f := shiftWrites op v s.f.c } := by
  simp only [shiftOnHL, State.memRead_of_some h, shift_eq, shiftFlags_eq_shiftWrites]

/-! ### The obligations -/

/-- Settles O33: each of the four is the rotate of A by its operation. -/
theorem accumulatorRotates : Obligations.AccumulatorRotates := by
  refine ⟨rfl, rfl, rfl, rfl, fun s => ?_⟩
  simp only [List.forall_mem_cons, exec_rlca, exec_rrca, exec_rla, exec_rra]
  exact ⟨rotateA_eq .rlc s, rotateA_eq .rrc s, rotateA_eq .rl s, rotateA_eq .rr s,
    List.forall_mem_nil _⟩

/-- Settles O34: the meaning of each form is the shift unit on its register. -/
theorem shiftRegisters : Obligations.ShiftRegisters := by
  refine fun op r => ⟨encode_shiftReg op r, fun s => ?_⟩
  rw [exec_shiftReg, shiftOnReg_eq]

/-- Settles O35: the shift unit on a written byte at HL; an unwritten one stops the instruction. -/
theorem shiftMemory : Obligations.ShiftMemory := by
  refine fun op => ⟨encode_shiftHL op, fun s => ⟨fun v hv => ?written, fun hv => ?stop⟩⟩
  case written => rw [exec_shiftHL, shiftOnHL_of_read hv]
  case stop => rw [exec_shiftHL, shiftOnHL, State.memRead_eq_stoppedAt hv]

end Sys2Proof.Machine
end

section
/-! The single-bit instructions: RES and SET bit by bit, and the obligations on BIT, RES and SET (R650 to
R655). -/
namespace Sys2Proof.Machine
open Sys2Proof.Claims

/-! ### The encodings by bit number and register code (R310, R321) -/

theorem encode_bitReg (b : BitIx) (r : Reg8) :
    encode (Instr.bitReg b r) = [0xCB, 0b01#2 ++ bitCode b ++ regCode r] := by
  cases b <;> cases r <;> rfl

theorem encode_bitHL (b : BitIx) :
    encode (Instr.bitHL b) = [0xCB, 0b01#2 ++ bitCode b ++ 0b110#3] := by
  cases b <;> rfl

theorem encode_resReg (b : BitIx) (r : Reg8) :
    encode (Instr.resReg b r) = [0xCB, 0b10#2 ++ bitCode b ++ regCode r] := by
  cases b <;> cases r <;> rfl

theorem encode_resHL (b : BitIx) :
    encode (Instr.resHL b) = [0xCB, 0b10#2 ++ bitCode b ++ 0b110#3] := by
  cases b <;> rfl

theorem encode_setReg (b : BitIx) (r : Reg8) :
    encode (Instr.setReg b r) = [0xCB, 0b11#2 ++ bitCode b ++ regCode r] := by
  cases b <;> cases r <;> rfl

theorem encode_setHL (b : BitIx) :
    encode (Instr.setHL b) = [0xCB, 0b11#2 ++ bitCode b ++ 0b110#3] := by
  cases b <;> rfl

/-! ### RES and SET bit by bit (R652, R654) -/

theorem bitNumber_lt (b : BitIx) : bitNumber b < 8 := by
  cases b <;> decide

/-- The mask of RES and SET has the named bit and no other. -/
theorem getLsbD_bitMask (b : BitIx) (j : Nat) :
    (1#8 <<< bitNumber b).getLsbD j = decide (j = bitNumber b) := by
  rw [← BitVec.twoPow_eq, BitVec.getLsbD_twoPow, decide_eq_true (bitNumber_lt b), Bool.true_and]
  exact decide_eq_decide.2 eq_comm

theorem getLsbD_resetBit (v : Byte) (b : BitIx) {j : Nat} (hj : j < 8) :
    (resetBit v b).getLsbD j = if j = bitNumber b then false else v.getLsbD j := by
  rw [resetBit, BitVec.getLsbD_and, BitVec.getLsbD_not, getLsbD_bitMask]
  by_cases h : j = bitNumber b
  · simp [h]
  · simp [h, hj]

theorem getLsbD_setBit (v : Byte) (b : BitIx) (j : Nat) :
    (setBit v b).getLsbD j = if j = bitNumber b then true else v.getLsbD j := by
  rw [setBit, BitVec.getLsbD_or, getLsbD_bitMask]
  by_cases h : j = bitNumber b <;> simp [h]

/-! ### The obligations -/

/-- Settles O37: the bytes are those of `resetBit` and `setBit`; the memory forms write them back, or stop at
an unwritten byte. -/
theorem bitResetAndSet : Obligations.BitResetAndSet := by
  refine fun b => ⟨encode_resReg b, encode_setReg b, encode_resHL b, encode_setHL b, fun v =>
    ⟨resetBit v b, setBit v b, fun _ => getLsbD_resetBit v b, fun j _ => getLsbD_setBit v b j, fun s =>
      ⟨fun r hr => ?register, fun hv => ?written, fun hv => ?stop⟩⟩⟩
  case register =>
    rw [exec_resReg, resetBitOnReg, exec_setReg, setBitOnReg, hr]
    exact ⟨rfl, rfl⟩
  case written =>
    rw [exec_resHL, resetBitOnHL, exec_setHL, setBitOnHL, State.memRead_of_some hv,
      State.memRead_of_some hv]
    exact ⟨rfl, rfl⟩
  case stop =>
    rw [exec_resHL, resetBitOnHL, exec_setHL, setBitOnHL, State.memRead_eq_stoppedAt hv,
      State.memRead_eq_stoppedAt hv]
    exact ⟨rfl, rfl⟩

/-- Settles O36: both forms write the flags of `bitFlags`, the memory form where the byte was written. -/
theorem bitTest : Obligations.BitTest := by
  refine fun b => ⟨encode_bitReg b, encode_bitHL b, fun s =>
    ⟨fun r => ?register, fun v hv => ?written, fun hv => ?stop⟩⟩
  case register => rw [exec_bitReg, testBitOnReg, bitFlags]
  case written => rw [exec_bitHL, testBitOnHL, State.memRead_of_some hv, bitFlags]
  case stop => rw [exec_bitHL, testBitOnHL, State.memRead_eq_stoppedAt hv]

end Sys2Proof.Machine
end

section
/-! Jumps, calls, returns and restarts: a conditional instruction by its condition, and the obligations on
them (R700 to R711). -/
namespace Sys2Proof.Machine
open Sys2Proof.Claims

/-! ### The encodings by condition code and restart number (R313, R321) -/

theorem encode_jpCc (cc : Cond) (nn : Word) :
    encode (Instr.jpCc cc nn) = [0b110#3 ++ condCode cc ++ 0b010#3, lowByte nn, highByte nn] := by
  cases cc <;> rfl

theorem encode_jrCc (cc : Cond) (e : Byte) :
    encode (Instr.jrCc cc e) = [0b001#3 ++ condCode cc ++ 0b000#3, e] := by
  cases cc <;> rfl

theorem encode_callCc (cc : Cond) (nn : Word) :
    encode (Instr.callCc cc nn) = [0b110#3 ++ condCode cc ++ 0b100#3, lowByte nn, highByte nn] := by
  cases cc <;> rfl

theorem encode_retCc (cc : Cond) : encode (Instr.retCc cc) = [0b110#3 ++ condCode cc ++ 0b000#3] := by
  cases cc <;> rfl

theorem encode_rst (b : BitIx) : encode (Instr.rst b) = [0b11#2 ++ bitCode b ++ 0b111#3] := by
  cases b <;> rfl

/-! ### The conditions (R700) -/

theorem cond_iff_holds (f : Flags) (cc : Cond) : f.cond cc = true ↔ holds f cc := by
  cases cc with
  | nz | nc => exact iff_of_eq (Bool.not_eq_true' _)
  | z | c => exact Iff.rfl

/-- A conditional instruction is its unconditional one where the condition holds, and nothing elsewhere. -/
theorem exec_conditional {i : Instr} {s : State} {cc : Cond} {taken : Result}
    (hi : exec i s = if s.f.cond cc then taken else .next s) :
    (holds s.f cc → exec i s = taken) ∧ (¬holds s.f cc → exec i s = .next s) := by
  rw [hi]
  exact ⟨fun h => if_pos ((cond_iff_holds _ _).2 h), fun h => if_neg (mt (cond_iff_holds _ _).1 h)⟩

/-! ### The shared operations -/

/-- A relative target is the sum of `addSPe`, with PC in the place of SP (R551, R704). -/
theorem toNat_add_displacement (x : Word) (e : Byte) :
    ((x + displacement e).toNat : Int) = ((x.toNat : Int) + e.toInt) % 65536 :=
  toNat_addSPe x e

theorem call_eq_pushed (target : Word) (s : State) :
    call target s = .next { pushed s s.pc with pc := target } := by
  rw [call, State.push16_eq_pushed]

theorem ret_of_read {s : State} {lo hi : Byte} (hlo : s.read s.sp = some lo)
    (hhi : s.read (s.sp + 1) = some hi) : ret s = .next { s with pc := hi ++ lo, sp := s.sp + 2 } :=
  State.pop16_of_read hlo hhi _

theorem returnFromInterrupt_of_read {s : State} {lo hi : Byte} (hlo : s.read s.sp = some lo)
    (hhi : s.read (s.sp + 1) = some hi) :
    returnFromInterrupt s =
      .next { s with pc := hi ++ lo, sp := s.sp + 2, ime := true, eiDelay := 0 } :=
  State.pop16_of_read hlo hhi _

theorem exec_retCc_conditional (cc : Cond) (s : State) :
    (holds s.f cc → exec (Instr.retCc cc) s = ret s) ∧
      (¬holds s.f cc → exec (Instr.retCc cc) s = .next s) :=
  exec_conditional (exec_retCc cc s)

/-- Each return that is taken is a `Pop16` and a rest that runs only with both bytes read. -/
theorem exec_return_eq_pop16 {s : State} {i : Instr}
    (hi : i = .ret ∨ i = .reti ∨ ∃ cc, holds s.f cc ∧ i = Instr.retCc cc) :
    ∃ k, exec i s = s.pop16 k := by
  rcases hi with rfl | rfl | ⟨cc, hcc, rfl⟩
  · exact ⟨_, exec_ret s⟩
  · exact ⟨_, exec_reti s⟩
  · exact ⟨_, (exec_retCc_conditional cc s).1 hcc⟩

/-! ### The obligations -/

/-- Settles O38: every form is a jump to one of three targets, or a conditional one to the first or the
third. -/
theorem jumps : Obligations.Jumps := by
  refine ⟨fun _ => rfl, encode_jpCc, rfl, fun _ => rfl, encode_jrCc, fun s nn e =>
    ⟨exec_jp_nn nn s, exec_jp_HL s, s.pc + displacement e, toNat_add_displacement s.pc e, exec_jr_e e s,
      fun cc => ?conditional⟩⟩
  case conditional =>
    obtain ⟨jpTaken, jpNot⟩ := exec_conditional (exec_jpCc cc nn s)
    obtain ⟨jrTaken, jrNot⟩ := exec_conditional (exec_jrCc cc e s)
    exact ⟨fun h => ⟨jpTaken h, jrTaken h⟩, fun h => ⟨jpNot h, jrNot h⟩⟩

/-- Settles O39: a call, a conditional call and a restart are one operation, a push of PC and a jump. -/
theorem callsAndRestarts : Obligations.CallsAndRestarts := by
  refine ⟨fun _ => rfl, encode_callCc, encode_rst, fun s nn => ?_⟩
  simp only [← call_eq_pushed]
  exact ⟨exec_call_nn nn s, fun cc => exec_conditional (exec_callCc cc nn s), fun b => exec_rst b s⟩

/-- Settles O40: with both bytes written each form goes on with high:low; the stop is that of `Pop16`,
whichever form it is. -/
theorem returns : Obligations.Returns := by
  refine ⟨rfl, rfl, encode_retCc, fun s => ⟨fun lo hi hlo hhi => ?written,
    fun cc => (exec_retCc_conditional cc s).2, fun i hi => ?stop⟩⟩
  case written =>
    exact ⟨ret_of_read hlo hhi, returnFromInterrupt_of_read hlo hhi,
      fun cc hcc => ((exec_retCc_conditional cc s).1 hcc).trans (ret_of_read hlo hhi)⟩
  case stop =>
    obtain ⟨k, hk⟩ := exec_return_eq_pop16 hi
    rw [hk]
    exact ⟨fun h => State.pop16_of_low_none h k, fun hlo hhi => State.pop16_of_high_none hlo hhi k⟩

end Sys2Proof.Machine
end

section
/-! The machine invariant `State.Good` at reset and over every step, and the obligations on it (R111, R112, R113,
R115). -/
namespace Sys2Proof.Machine

/-- The invariant speaks of what a state holds and every write keeps it, so it is one of the properties that
`KeptByWrites` carries over a step. -/
theorem keptByWrites_good : KeptByWrites State.Good where
  of_held := by
    intro s t h held
    simp only [State.held, Prod.mk.injEq] at held
    obtain ⟨hmem, hcart, hbank, hbug, hrepeat⟩ := held
    exact h.of_same hmem hcart hbank hbug (.inl hrepeat)
  write := fun h x v => h.write x v
  set_repeat := by
    intro s h b hb
    refine ⟨h.mem_wf, h.mem_backed, h.cart_good, h.bank_nonzero, fun hbug => ?_⟩
    have hbug : s.haltBug = false := hbug
    exact hb.resolve_right (by simp [hbug])

/-- The reset state with a good cartridge and either value of `halt_bug`. -/
theorem State.good_reset_with {cart : Option Cartridge} (h : ∀ c ∈ cart, c.good) (bug : Bool) :
    ({ State.reset with cart := cart, haltBug := bug } : State).Good where
  mem_wf := Memory.wf_nil
  mem_backed := fun _ hp => absurd hp List.not_mem_nil
  cart_good := h
  bank_nonzero := show Banking.reset.romBankLow ≠ 0 by decide
  repeat_clear := fun _ => rfl

/-! ### The obligations -/

/-- Settles O3: the invariant holds after a step by the induction over the instruction set that `KeptByWrites.step`
is. -/
theorem everyStepKeepsTheInvariant : Obligations.EveryStepKeepsTheInvariant :=
  fun _ t hs ht => keptByWrites_good.step hs t ht

/-- Settles O2: after reset nothing is listed, and there is no cartridge. -/
theorem goodAtReset : Obligations.GoodAtReset :=
  State.good_reset_with (cart := none) (by simp) false

end Sys2Proof.Machine
end

section
/-! What `loadImage` answers and installs, and the obligations on it and on the other operations of the host
(R11, R240 to R244, R754, R803, R900). -/
namespace Sys2Proof.Machine
open Sys2Proof.Claims

/-! ### The header bytes (R242, R243) -/

theorem schemeOf_eq_none_iff (t : Byte) : schemeOf t = none ↔ 3 < t.toNat := by
  revert t; decide

theorem schemeOf_eq_some {t : Byte} {scheme : Scheme} (h : schemeOf t = some scheme) :
    scheme = .none ↔ t.toNat = 0 := by
  revert h t
  cases scheme <;> decide

/-- The RAM size a size code stands for, where it stands for one. -/
def ramSizeOfCode (code : Nat) : Nat := if code = 2 then 0x2000 else if code = 3 then 0x8000 else 0

theorem ramSizeOf_eq_ite (c : Byte) :
    ramSizeOf c =
      if c.toNat = 0 ∨ c.toNat = 2 ∨ c.toNat = 3 then some (ramSizeOfCode c.toNat) else none := by
  revert c; decide

/-! ### The checks in their order (R240) -/

/-- The cartridge that an image passing every check installs. -/
def installed (bytes init : List Byte) (scheme : Scheme) (size : Nat) : Cartridge :=
  { scheme, rom := RomImage.ofBytes bytes, ram := ramImageOf size (cellsFrom 0 init),
    ramInit := cellsFrom 0 init }

section
variable {bytes : List Byte} {ramInit : Option (List Byte)}

theorem cartridgeOf_undersized (h : bytes.length < 0x8000) :
    cartridgeOf bytes ramInit = .error .undersized := by
  rw [cartridgeOf, if_pos h]

theorem cartridgeOf_unsupportedScheme (hlen : 0x8000 ≤ bytes.length)
    (h : schemeOf (bytes.getD 0x0147 0) = none) :
    cartridgeOf bytes ramInit = .error .unsupportedScheme := by
  rw [cartridgeOf, if_neg (by omega), h]

theorem cartridgeOf_unsupportedRamSize {scheme : Scheme} (hlen : 0x8000 ≤ bytes.length)
    (hscheme : schemeOf (bytes.getD 0x0147 0) = some scheme)
    (h : ramSizeOf (bytes.getD 0x0149 0) = none) :
    cartridgeOf bytes ramInit = .error .unsupportedRamSize := by
  rw [cartridgeOf, if_neg (by omega), hscheme]
  dsimp only
  rw [h]

theorem cartridgeOf_ramInitLength {scheme : Scheme} {size : Nat} {init : List Byte}
    (hlen : 0x8000 ≤ bytes.length) (hscheme : schemeOf (bytes.getD 0x0147 0) = some scheme)
    (hsize : ramSizeOf (bytes.getD 0x0149 0) = some size) (hinit : ramInit = some init)
    (h : init.length ≠ size) : cartridgeOf bytes ramInit = .error .ramInitLength := by
  rw [cartridgeOf, if_neg (by omega), hscheme, hinit]
  dsimp only
  rw [hsize]
  exact if_neg h

theorem cartridgeOf_ok {scheme : Scheme} {size : Nat} (hlen : 0x8000 ≤ bytes.length)
    (hscheme : schemeOf (bytes.getD 0x0147 0) = some scheme)
    (hsize : ramSizeOf (bytes.getD 0x0149 0) = some size)
    (h : ∀ init, ramInit = some init → init.length = size) :
    cartridgeOf bytes ramInit = .ok (installed bytes (ramInit.getD []) scheme size) := by
  rw [cartridgeOf, if_neg (by omega), hscheme]
  dsimp only
  rw [hsize]
  cases ramInit with
  | none => rfl
  | some init => exact if_pos (h init rfl)

/-- An image that is accepted has passed every check. -/
theorem cartridgeOf_eq_ok {c : Cartridge} (h : cartridgeOf bytes ramInit = .ok c) :
    ∃ scheme size, 0x8000 ≤ bytes.length ∧ schemeOf (bytes.getD 0x0147 0) = some scheme ∧
      ramSizeOf (bytes.getD 0x0149 0) = some size ∧
      (∀ init, ramInit = some init → init.length = size) ∧
      c = installed bytes (ramInit.getD []) scheme size := by
  by_cases hlen : bytes.length < 0x8000
  · rw [cartridgeOf_undersized hlen] at h; cases h
  have hlen : 0x8000 ≤ bytes.length := Nat.not_lt.1 hlen
  cases hscheme : schemeOf (bytes.getD 0x0147 0) with
  | none => rw [cartridgeOf_unsupportedScheme hlen hscheme] at h; cases h
  | some scheme =>
    cases hsize : ramSizeOf (bytes.getD 0x0149 0) with
    | none => rw [cartridgeOf_unsupportedRamSize hlen hscheme hsize] at h; cases h
    | some size =>
      have hinit : ∀ init, ramInit = some init → init.length = size := by
        intro init hinit
        by_contra hne
        rw [cartridgeOf_ramInitLength hlen hscheme hsize hinit hne] at h
        cases h
      rw [cartridgeOf_ok hlen hscheme hsize hinit] at h
      cases h
      exact ⟨scheme, size, hlen, rfl, rfl, hinit, rfl⟩

end

/-! ### The installed cartridge (R243, R244) -/

theorem Cartridge.afterReset_installed (bytes init : List Byte) (scheme : Scheme) (size : Nat) :
    (installed bytes init scheme size).afterReset = installed bytes init scheme size := by
  simp only [Cartridge.afterReset, installed, ramImageOf]
  split <;> rfl

theorem Cartridge.good_afterReset {c : Cartridge} (h : c.good) : c.afterReset.good := by
  obtain ⟨hrom, hinit, hram⟩ := h
  refine ⟨hrom, hinit, fun r hr => ?_⟩
  simp only [Cartridge.afterReset, Option.mem_map] at hr
  obtain ⟨q, hq, rfl⟩ := hr
  obtain ⟨⟨hsize, -, -⟩, hbound⟩ := hram q hq
  exact ⟨⟨hsize, hinit, hbound⟩, hbound⟩

theorem Cartridge.good_of_cartridgeOf {bytes : List Byte} {ramInit : Option (List Byte)} {c : Cartridge}
    (h : cartridgeOf bytes ramInit = .ok c) : c.good := by
  obtain ⟨scheme, size, hlen, -, hsize, hinit, rfl⟩ := cartridgeOf_eq_ok h
  refine ⟨RomImage.good_ofBytes hlen, cellsFrom_wf 0 _, fun r hr => ?_⟩
  have hlegal : size = 0 ∨ size = 0x2000 ∨ size = 0x8000 := by
    rw [ramSizeOf_eq_ite] at hsize
    unfold ramSizeOfCode at hsize
    grind
  have hbound : ∀ p ∈ cellsFrom 0 (ramInit.getD []), p.1 < size := by
    intro p hp
    obtain ⟨-, hp⟩ := cellsFrom_bounds p hp
    cases ramInit with
    | none => simp at hp
    | some init => rw [← hinit init rfl]; simpa using hp
  simp only [installed, ramImageOf] at hr
  split at hr
  · cases hr
  · cases hr
    exact ⟨⟨hlegal.resolve_left ‹_›, cellsFrom_wf 0 _, hbound⟩, hbound⟩

/-! ### What `loadImage` answers -/

theorem State.loadImage_of_error {bytes : List Byte} {ramInit : Option (List Byte)} {r : InvalidImage}
    (h : cartridgeOf bytes ramInit = .error r) (s : State) :
    s.loadImage bytes ramInit = (.error r, { s with cart := none }) := by
  rw [State.loadImage, h]

theorem State.loadImage_of_ok {bytes : List Byte} {ramInit : Option (List Byte)} {c : Cartridge}
    (h : cartridgeOf bytes ramInit = .ok c) (s : State) :
    s.loadImage bytes ramInit =
      (.ok (), { State.reset with cart := some c, haltBug := s.haltBug }) := by
  obtain ⟨scheme, size, -, -, -, -, rfl⟩ := cartridgeOf_eq_ok h
  rw [State.loadImage, h]
  simp only [State.hostReset, Option.map_some, Cartridge.afterReset_installed]

/-! ### The invariant over the operations of the host -/

theorem State.Good.hostReset {s : State} (h : s.Good) : s.hostReset.Good := by
  refine State.good_reset_with (fun c hc => ?_) s.haltBug
  obtain ⟨d, hd, rfl⟩ := Option.mem_map.1 hc
  exact Cartridge.good_afterReset (h.cart_good d hd)

theorem State.Good.loadImage {s : State} (h : s.Good) (bytes : List Byte) (ramInit : Option (List Byte)) :
    (s.loadImage bytes ramInit).2.Good := by
  cases hc : cartridgeOf bytes ramInit with
  | error r =>
    rw [State.loadImage_of_error hc]
    exact ⟨h.mem_wf, h.mem_backed, by simp, h.bank_nonzero, h.repeat_clear⟩
  | ok c =>
    rw [State.loadImage_of_ok hc]
    refine State.good_reset_with (fun d hd => ?_) s.haltBug
    obtain rfl : c = d := Option.some.inj hd
    exact Cartridge.good_of_cartridgeOf hc

theorem State.Good.wake {s : State} (h : s.Good) : s.wake.Good := by
  unfold State.wake
  split
  · exact h.of_same rfl rfl rfl rfl (.inl rfl)
  · exact h

theorem State.Good.environmentWrite {s : State} (h : s.Good) (k : Fin 128) (v : Byte) :
    (s.environmentWrite k v).Good := by
  unfold State.environmentWrite
  split
  · exact h
  · exact h.of_same rfl rfl rfl rfl (.inl rfl)

theorem State.requestInterrupt_eq_some {s t : State} {k : Nat} (h : s.requestInterrupt k = some t) :
    t = { s with ifReg := s.ifReg ||| (1#8 <<< k) } := by
  unfold State.requestInterrupt at h
  split at h <;> cases h
  rfl

/-! ### The obligations -/

/-- Settles O4: a reset and a load end in the reset state with a good cartridge; the others change nothing the
invariant speaks of. -/
theorem hostOperationsKeepTheInvariant : Obligations.HostOperationsKeepTheInvariant := by
  refine fun s h => ⟨h.hostReset, h.wake, h.loadImage, fun k t hk => ?request, h.environmentWrite⟩
  case request =>
    rw [State.requestInterrupt_eq_some hk]
    exact h.of_same rfl rfl rfl rfl (.inl rfl)

/-- Settles O15: the checks one after the other decide the answer, and the answer decides the state. -/
theorem loadImageChecks : Obligations.LoadImageChecks := by
  intro s bytes ramInit type code size answer t
  have hsizeOf : ramSizeOf (bytes.getD 0x0149 0) = if code = 0 ∨ code = 2 ∨ code = 3 then some size else none :=
    ramSizeOf_eq_ite _
  have hanswer {r} (h : cartridgeOf bytes ramInit = .error r) : answer = .error r :=
    congrArg Prod.fst (State.loadImage_of_error h s)
  have hscheme : type ≤ 3 → ∃ scheme, schemeOf (bytes.getD 0x0147 0) = some scheme := fun h =>
    Option.ne_none_iff_exists'.1 (mt (schemeOf_eq_none_iff _).1 (Nat.not_lt.2 h))
  refine ⟨fun hlen => hanswer (cartridgeOf_undersized hlen),
    fun hlen htype => hanswer (cartridgeOf_unsupportedScheme hlen ((schemeOf_eq_none_iff _).2 htype)),
    fun hlen htype h0 h2 h3 => ?ramSize,
    fun hlen htype hcode => ⟨fun init hinit hne => ?initLength, fun hinit => ?ok⟩,
    fun r hr => ?refused, fun hok => ?accepted⟩
  case ramSize =>
    obtain ⟨scheme, hscheme⟩ := hscheme htype
    refine hanswer (cartridgeOf_unsupportedRamSize hlen hscheme (hsizeOf.trans (if_neg ?_)))
    simp [h0, h2, h3]
  case initLength =>
    obtain ⟨scheme, hscheme⟩ := hscheme htype
    exact hanswer (cartridgeOf_ramInitLength hlen hscheme (hsizeOf.trans (if_pos hcode)) hinit hne)
  case ok =>
    obtain ⟨scheme, hscheme⟩ := hscheme htype
    have hc := cartridgeOf_ok hlen hscheme (hsizeOf.trans (if_pos hcode)) hinit
    exact congrArg Prod.fst (State.loadImage_of_ok hc s)
  case refused =>
    cases hc : cartridgeOf bytes ramInit with
    | error q =>
      have ht : t = { s with cart := none } := congrArg Prod.snd (State.loadImage_of_error hc s)
      rw [ht]
      exact ⟨rfl, rfl⟩
    | ok c => cases hr.symm.trans (congrArg Prod.fst (State.loadImage_of_ok hc s))
  case accepted =>
    cases hc : cartridgeOf bytes ramInit with
    | error q => cases hok.symm.trans (hanswer hc)
    | ok c =>
      have ht : t = { State.reset with cart := some c, haltBug := s.haltBug } :=
        congrArg Prod.snd (State.loadImage_of_ok hc s)
      obtain ⟨scheme, size', -, hscheme, hsize, -, rfl⟩ := cartridgeOf_eq_ok hc
      obtain rfl : size' = size := by grind
      rw [ht]
      exact ⟨resetValues_reset, rfl, _, rfl, rfl, schemeOf_eq_some hscheme, rfl⟩

/-- Settles O56: each operation is a change of one field, or none. -/
theorem hostRequests : Obligations.HostRequests := by
  intro s
  refine ⟨fun k hk => ⟨_, if_pos hk, fun j hj => ?bits⟩, fun k hk => if_neg (Nat.not_le.2 hk),
    fun h => ?stopped, fun h => ?notStopped, fun k v => rfl⟩
  case bits =>
    rw [BitVec.getLsbD_or, BitVec.getLsbD_shiftLeft, BitVec.getLsbD_one]
    grind
  case stopped => rw [State.wake, h]
  case notStopped =>
    unfold State.wake
    split
    · exact absurd ‹_› h
    · rfl

end Sys2Proof.Machine
end

section
/-! Where a write stores, what it leaves of the other bytes, and the obligations on both (R201 to R204, R211, R220 to
R228). -/
namespace Sys2Proof.Machine
open Sys2Proof.Claims

section
variable {s : State} {x y : Word}

/-! ### Where a write stores -/

theorem Banking.ramBank_eq_ite (k : Banking) :
    k.ramBank = if k.bankMode = .ramBanking then k.bankHigh.toNat else 0 := by
  unfold Banking.ramBank
  cases k.bankMode <;> rfl

theorem ramOffset_eq (k : Banking) (x : Word) :
    ramOffset k x =
      (if k.bankMode = .ramBanking then k.bankHigh.toNat else 0) * 0x2000 + (x.toNat - 0xA000) := by
  unfold ramOffset
  rw [Banking.ramBank_eq_ite]

/-- The cartridge RAM window reaches a byte, as the statements and as the model say it (R228). -/
theorem ramMapped_iff : ramMapped s x ↔ s.mappedRam x ≠ none := by
  rw [Option.ne_none_iff_exists']
  constructor
  · rintro ⟨c, r, hc, hs, hr, he, hlt⟩
    rw [← ramOffset_eq] at hlt
    exact ⟨(c, r, _), State.mappedRam_eq_some.2 ⟨hc, hs, hr, he, rfl, hlt⟩⟩
  · rintro ⟨⟨c, r, off⟩, h⟩
    obtain ⟨hc, hs, hr, he, hoff, hlt⟩ := State.mappedRam_eq_some.1 h
    rw [hoff, ramOffset_eq] at hlt
    exact ⟨c, r, hc, hs, hr, he, hlt⟩

theorem storesAt_iff : storesAt s x ↔
    region x ≠ .rom ∧ region x ≠ .unmapped ∧ (region x = .cartRam → s.mappedRam x ≠ none) := by
  rw [storesAt, ramMapped_iff, ← region_eq_unmapped, ← region_eq_cartRam, ← Nat.not_lt, ← region_eq_rom]

/-- A read of a byte array goes to the home of its address (R203). -/
theorem State.read_of_home (h : region x = .array ∨ region x = .echo) :
    s.read x = s.mem.read (home x) := by
  rcases h with h | h
  · rw [State.read_of_array h, home_of_not_echo (by simp [h])]
  · rw [State.read_of_echo h, home_of_echo h]

theorem State.read_write_self_of_cartRam (hx : region x = .cartRam) (hm : s.mappedRam x ≠ none) (v : Byte) :
    (s.write x v).read x = some v := by
  obtain ⟨⟨c, r, off⟩, hm⟩ := Option.ne_none_iff_exists'.1 hm
  have hm' := State.mappedRam_writeRAM hm v x
  rw [hm, Option.map_some] at hm'
  rw [State.write_of_cartRam hx, State.read_of_cartRam hx, State.readRAM_of_some hm', Memory.read_write_self]

/-- What is written where a write stores is read back (R202). -/
theorem State.read_write_self (h : storesAt s x) (v : Byte) : (s.write x v).read x = some v := by
  obtain ⟨hrom, hunmapped, hram⟩ := storesAt_iff.1 h
  cases hx : region x with
  | rom => exact absurd hx hrom
  | cartRam => exact State.read_write_self_of_cartRam hx (hram hx) v
  | array => exact State.read_write_self_of_array hx v
  | echo => rw [State.read_of_echo hx, State.write_of_echo hx, Memory.read_write_self]
  | unmapped => exact absurd hx hunmapped
  | io => rw [State.read_of_io hx, State.write_of_io hx, io_get_set_self]
  | ifByte => rw [State.read_of_ifByte hx, State.write_of_ifByte hx]
  | ieByte => rw [State.read_of_ieByte hx, State.write_of_ieByte hx]

/-- From 0x8000 on, an address that does not store is a hole of the map: the unmapped range, or a cartridge RAM
window that reaches no byte (R204, R211, R228). -/
theorem State.access_of_not_storesAt (h : ¬storesAt s x) (hx : 0x8000 ≤ x.toNat) (v : Byte) :
    s.write x v = s ∧ s.read x = some 0xFF := by
  have hrom : region x ≠ .rom := mt (region_eq_rom x).1 (Nat.not_lt.2 hx)
  rw [storesAt_iff] at h
  by_cases hunmapped : region x = .unmapped
  · exact ⟨State.write_of_unmapped hunmapped v, State.read_of_unmapped hunmapped⟩
  · have hram : region x = .cartRam ∧ s.mappedRam x = none := by
      simpa [hrom, hunmapped] using h
    exact (State.access_of_mappedRam_none hram.1 hram.2 v).symm

/-! ### What a write leaves of the other bytes -/

theorem State.writeROM_shape (s : State) (x : Word) (v : Byte) :
    ∃ bank, s.writeROM x v = { s with bank := bank } := by
  unfold State.writeROM
  split
  · split <;> exact ⟨_, rfl⟩
  · exact ⟨_, rfl⟩

theorem State.writeRAM_shape (s : State) (x : Word) (v : Byte) :
    ∃ cart, s.writeRAM x v = { s with cart := cart } := by
  unfold State.writeRAM
  split <;> exact ⟨_, rfl⟩

theorem State.write_io_of_ne (h : region x ≠ .io) (v : Byte) : (s.write x v).io = s.io := by
  obtain ⟨_, rom⟩ := s.writeROM_shape x v
  obtain ⟨_, ram⟩ := s.writeRAM_shape x v
  unfold State.write
  cases hx : region x <;> simp_all

theorem State.write_ifReg_of_ne (h : region x ≠ .ifByte) (v : Byte) : (s.write x v).ifReg = s.ifReg := by
  obtain ⟨_, rom⟩ := s.writeROM_shape x v
  obtain ⟨_, ram⟩ := s.writeRAM_shape x v
  unfold State.write
  cases hx : region x <;> simp_all

theorem State.write_ieReg_of_ne (h : region x ≠ .ieByte) (v : Byte) : (s.write x v).ieReg = s.ieReg := by
  obtain ⟨_, rom⟩ := s.writeROM_shape x v
  obtain ⟨_, ram⟩ := s.writeRAM_shape x v
  unfold State.write
  cases hx : region x <;> simp_all

/-- ROM does not see a change of the banking registers in its lower window (R226). -/
theorem State.readROM_with_bank (hy : y.toNat < 0x4000) (bank : Banking) :
    ({ s with bank := bank } : State).readROM y = s.readROM y := by
  have offset (c : Cartridge) (k : Banking) : romOffset c k y = y.toNat := by
    cases hs : c.scheme with
    | none => exact romOffset_of_no_mbc1 hs k y
    | mbc1 => exact romOffset_lower hs k hy
  simp only [State.readROM, offset]

/-- ROM reads at a bank, so a write below 0x8000 can change only the upper window (R224). -/
theorem State.readROM_write (hx : x.toNat < 0x8000 → ¬banked y) (hy : region y = .rom) (v : Byte) :
    (s.write x v).readROM y = s.readROM y := by
  cases hr : region x with
  | rom =>
    have hlow : y.toNat < 0x4000 := by
      have hbanked := hx ((region_eq_rom x).1 hr)
      rw [region_eq_rom] at hy
      unfold banked at hbanked
      omega
    obtain ⟨bank, e⟩ := s.writeROM_shape x v
    rw [State.write_of_rom hr, e, State.readROM_with_bank hlow]
  | cartRam => rw [State.write_of_cartRam hr, State.readROM_writeRAM]
  | _ => simp only [State.write, hr] <;> rfl

/-- Cartridge RAM does not see a write at another address of its window (R225, R228). -/
theorem State.readRAM_writeRAM_of_ne (hx : region x = .cartRam) (hy : region y = .cartRam) (hne : y ≠ x)
    (v : Byte) : (s.writeRAM x v).readRAM y = s.readRAM y := by
  cases hm : s.mappedRam x with
  | none => rw [State.writeRAM_of_none hm]
  | some p =>
    obtain ⟨c, r, off⟩ := p
    have hm' := State.mappedRam_writeRAM hm v y
    cases hn : s.mappedRam y with
    | none =>
      rw [hn, Option.map_none] at hm'
      rw [State.readRAM_of_none hm', State.readRAM_of_none hn]
    | some q =>
      obtain ⟨c', r', off'⟩ := q
      rw [hn, Option.map_some] at hm'
      obtain ⟨hc, -, hr, -, hoff, -⟩ := State.mappedRam_eq_some.1 hm
      obtain ⟨hc', -, hr', -, hoff', -⟩ := State.mappedRam_eq_some.1 hn
      obtain rfl : c = c' := Option.some.inj (hc.symm.trans hc')
      obtain rfl : r = r' := Option.some.inj (hr.symm.trans hr')
      have hoffs : off' ≠ off := fun e => hne (ramOffset_inj hy hx (hoff'.symm.trans (e.trans hoff)))
      rw [State.readRAM_of_some hm', State.readRAM_of_some hn, Memory.read_write_of_ne _ _ hoffs]

theorem State.readRAM_write (hx : x.toNat < 0x8000 → ¬banked y) (hy : region y = .cartRam) (hne : y ≠ x)
    (v : Byte) : (s.write x v).readRAM y = s.readRAM y := by
  cases hr : region x with
  | rom => exact absurd (.inr ((region_eq_cartRam y).1 hy)) (hx ((region_eq_rom x).1 hr))
  | cartRam => rw [State.write_of_cartRam hr, State.readRAM_writeRAM_of_ne hr hy hne]
  | _ => simp only [State.write, hr] <;> rfl

theorem State.io_get_write (hy : region y = .io) (hne : y ≠ x) (v : Byte) :
    (s.write x v).io.get (ioIndex y) = s.io.get (ioIndex y) := by
  by_cases hx : region x = .io
  · rw [State.write_of_io hx]
    exact io_get_set_of_ne s.io v fun e => hne (ioIndex_inj hy hx e)
  · rw [State.write_io_of_ne hx]

/-- A write leaves every byte but the one its address names and, below 0x8000, those of the banked windows
(R202, R203). -/
theorem State.read_write_of_ne_home (hne : home y ≠ home x) (hx : x.toNat < 0x8000 → ¬banked y) (v : Byte) :
    (s.write x v).read y = s.read y := by
  have hyx : y ≠ x := fun e => hne (congrArg home e)
  cases hy : region y with
  | rom => rw [State.read_of_rom hy, State.read_of_rom hy, State.readROM_write hx hy]
  | cartRam => rw [State.read_of_cartRam hy, State.read_of_cartRam hy, State.readRAM_write hx hy hyx]
  | array => rw [State.read_of_home (.inl hy), State.read_of_home (.inl hy), State.mem_read_write_of_ne_home hne]
  | echo => rw [State.read_of_home (.inr hy), State.read_of_home (.inr hy), State.mem_read_write_of_ne_home hne]
  | unmapped => rw [State.read_of_unmapped hy, State.read_of_unmapped hy]
  | io => rw [State.read_of_io hy, State.read_of_io hy, State.io_get_write hy hyx]
  | ifByte =>
    have hxr : region x ≠ .ifByte := by
      rw [Ne, region_eq_ifByte, ← (region_eq_ifByte y).1 hy]
      exact fun e => hyx (BitVec.eq_of_toNat_eq e.symm)
    rw [State.read_of_ifByte hy, State.read_of_ifByte hy, State.write_ifReg_of_ne hxr]
  | ieByte =>
    have hxr : region x ≠ .ieByte := by
      rw [Ne, region_eq_ieByte, ← (region_eq_ieByte y).1 hy]
      exact fun e => hyx (BitVec.eq_of_toNat_eq e.symm)
    rw [State.read_of_ieByte hy, State.read_of_ieByte hy, State.write_ieReg_of_ne hxr]

end

/-! ### The obligations -/

/-- Settles O10: an address from 0x8000 on stores, or is a hole of the map. -/
theorem readAfterWriteGivesTheByte : Obligations.ReadAfterWriteGivesTheByte :=
  fun _ _ v => ⟨fun h => State.read_write_self h v, fun h hx => State.access_of_not_storesAt h hx v⟩

/-- Settles O11, region by region of the byte that is read. -/
theorem writeChangesNoOtherByte : Obligations.WriteChangesNoOtherByte :=
  fun _ _ _ v hne hx => State.read_write_of_ne_home hne hx v

end Sys2Proof.Machine
end

section
/-! What a loaded image reads as, and the obligation on it (R211, R224 to R228, R244). -/
namespace Sys2Proof.Machine

theorem cellsFrom_read_eq_getElem? (l : List Byte) (i : Nat) : (cellsFrom 0 l).read i = l[i]? := by
  by_cases h : i < l.length
  · have hread := cellsFrom_read 0 l i h
    rw [Nat.zero_add] at hread
    rw [hread, List.getElem?_eq_getElem h]
  · rw [List.getElem?_eq_none (Nat.not_lt.1 h), Option.eq_none_iff_forall_ne_some]
    intro v hv
    have hbound := (cellsFrom_bounds _ (Memory.mem_of_read hv)).2
    omega

/-- An unlisted offset of an image built from bytes holds the fill byte (log entry 9). -/
theorem RomImage.read_ofBytes {l : List Byte} {i : Nat} (h : i < l.length) :
    (RomImage.ofBytes l).read i = l[i] := by
  have hcell : (cellsFrom 0 l).read i = some l[i] := by
    rw [cellsFrom_read_eq_getElem?, List.getElem?_eq_getElem h]
  have hlisted : (RomImage.ofBytes l).cells.wf := Memory.wf_filter (cellsFrom_wf 0 l) _
  have hsize : i < (RomImage.ofBytes l).size := h
  rw [RomImage.read, if_pos hsize]
  cases hr : (RomImage.ofBytes l).cells.read i with
  | some v =>
    have hv := Memory.read_of_mem (cellsFrom_wf 0 l) (List.mem_of_mem_filter (Memory.mem_of_read hr))
    exact Option.some.inj (hv.symm.trans hcell)
  | none =>
    by_contra hne
    have hmem : (i, l[i]) ∈ (RomImage.ofBytes l).cells :=
      List.mem_filter.2 ⟨Memory.mem_of_read hcell, bne_iff_ne.2 fun e => hne e.symm⟩
    rw [Memory.read_of_mem hlisted hmem] at hr
    cases hr

/-- Right after a reset every address below 0x8000 reads at its own offset: bank 1 is in the upper window. -/
theorem romOffset_reset (c : Cartridge) (x : Word) : romOffset c Banking.reset x = x.toNat := by
  cases hs : c.scheme with
  | none => exact romOffset_of_no_mbc1 hs _ x
  | mbc1 =>
    by_cases hx : x.toNat < 0x4000
    · exact romOffset_lower hs _ hx
    · rw [romOffset_upper hs _ (Nat.not_lt.1 hx)]
      have bank : Banking.reset.romBank = 1 := rfl
      omega

/-- A size code other than 0 stands for at least one bank of RAM (R243). -/
theorem ramSizeOf_bank {c : Byte} {size : Nat} (h : ramSizeOf c = some size) (hc : c ≠ 0) : 0x2000 ≤ size := by
  have hc : c.toNat ≠ 0 := fun e => hc (BitVec.eq_of_toNat_eq e)
  rw [ramSizeOf_eq_ite] at h
  unfold ramSizeOfCode at h
  grind

/-- With RAM enabled after a reset, the window reaches bank 0 (R225, R228). -/
theorem mappedRam_bank0 {s : State} {x : Word} {bytes init : List Byte} {size : Nat}
    (hcart : s.cart = some (installed bytes init .mbc1 size))
    (hbank : s.bank = { Banking.reset with ramEnable := true }) (hsize : 0x2000 ≤ size)
    (hx : region x = .cartRam) :
    s.mappedRam x =
      some (installed bytes init .mbc1 size, { size := size, cells := cellsFrom 0 init }, x.toNat - 0xA000) := by
  have hoffset : ramOffset s.bank x = x.toNat - 0xA000 := by
    rw [hbank]
    exact Nat.zero_add _
  have hram : ramImageOf size (cellsFrom 0 init) = some { size := size, cells := cellsFrom 0 init } :=
    if_neg (by omega)
  rw [region_eq_cartRam] at hx
  refine State.mappedRam_eq_some.2 ⟨hcart, rfl, hram, by rw [hbank], hoffset.symm, ?_⟩
  dsimp only
  omega

/-- Settles O16: the ROM windows read at their own offsets, and enabled RAM in bank 0 at the offsets of its
window. -/
theorem loadedImageIsRead : Obligations.LoadedImageIsRead := by
  intro s bytes ramInit hok t
  cases hc : cartridgeOf bytes ramInit with
  | error r =>
    rw [State.loadImage_of_error hc] at hok
    cases hok
  | ok c =>
    have ht : t = { State.reset with cart := some c, haltBug := s.haltBug } :=
      congrArg Prod.snd (State.loadImage_of_ok hc s)
    obtain ⟨scheme, size, hlen, hscheme, hsize, -, rfl⟩ := cartridgeOf_eq_ok hc
    clear_value t
    subst ht
    refine ⟨fun x hx => ?rom, fun htype hcode x hx hx' => ?ram⟩
    case rom =>
      have hin : x.toNat < bytes.length := Nat.lt_of_lt_of_le hx hlen
      rw [State.read_of_rom ((region_eq_rom x).2 hx), State.readROM_of_cart rfl, List.getElem?_eq_getElem hin]
      exact congrArg some ((congrArg _ (romOffset_reset _ x)).trans (RomImage.read_ofBytes hin))
    case ram =>
      obtain rfl : scheme = .mbc1 := by
        cases scheme with
        | none => exact absurd (BitVec.eq_of_toNat_eq ((schemeOf_eq_some hscheme).1 rfl)) htype
        | mbc1 => rfl
      have hwindow := (region_eq_cartRam x).2 ⟨hx, hx'⟩
      rw [State.write_of_mbc1 rfl rfl (by decide), State.read_of_cartRam hwindow,
        State.readRAM_of_some (mappedRam_bank0 rfl rfl (ramSizeOf_bank hsize hcode) hwindow),
        cellsFrom_read_eq_getElem?]

end Sys2Proof.Machine
end

section
/-! A push and a pop of it, and the obligation on them (R105, R453 to R455). -/
namespace Sys2Proof.Machine
open Sys2Proof.Claims

@[simp] theorem Flags.ofByte_toByte (f : Flags) : Flags.ofByte f.toByte = f := by
  obtain ⟨z, n, h, c⟩ := f
  revert z n h c
  decide

/-- Writing a pair with its own value changes nothing. -/
theorem State.setStackPair_eq_self {s : State} {p : StackPair} {v : Word} (h : s.stackPair p = v) :
    s.setStackPair p v = s := by
  subst h
  cases p <;> simp [State.setStackPair, State.stackPair, State.setHL, State.bc, State.de, State.hl, State.af]

theorem State.stackPair_pushed (s : State) (v : Word) (p : StackPair) : (pushed s v).stackPair p = s.stackPair p := by
  cases p <;> simp [pushed, State.stackPair, State.bc, State.de, State.hl, State.af]

/-- AF takes a word without its bits 3:0 (R103, R455). -/
theorem State.stackPair_setStackPair_af (s : State) (v : Word) :
    (s.setStackPair .af v).stackPair .af = v &&& 0xFFF0 := by
  have halves : wordOf (highByte v) (lowByte v) &&& wordOf 0xFF 0xF0 = wordOf (highByte v) (lowByte v &&& 0xF0) := by
    have full : highByte v &&& 0xFF = highByte v := BitVec.and_allOnes
    rw [wordOf, wordOf, wordOf, BitVec.and_append, full]
  rw [wordOf_highByte_lowByte] at halves
  exact (congrArg _ (Flags.toByte_ofByte _)).trans halves.symm

/-- A write from 0x8000 on leaves where the other addresses store. -/
theorem storesAt_write {s : State} {x y : Word} (hx : 0x8000 ≤ x.toNat) (v : Byte) (h : storesAt s y) :
    storesAt (s.write x v) y := by
  rw [storesAt_iff] at h ⊢
  obtain ⟨hrom, hunmapped, hram⟩ := h
  refine ⟨hrom, hunmapped, fun hy => ?_⟩
  cases hr : region x with
  | rom => exact absurd ((region_eq_rom x).1 hr) (Nat.not_lt.2 hx)
  | cartRam =>
    rw [State.write_of_cartRam hr]
    cases hm : s.mappedRam x with
    | none => rw [State.writeRAM_of_none hm]; exact hram hy
    | some p =>
      rw [State.mappedRam_writeRAM hm, Ne, Option.map_eq_none_iff]
      exact hram hy
  | _ => simp only [State.write, hr]; exact hram hy

/-- Neighbouring addresses that store name different bytes. -/
theorem home_ne_of_succ {x y : Word} (hy : 0x8000 ≤ y.toNat) (hx : x.toNat = y.toNat + 1) : home x ≠ home y := by
  unfold home
  split <;> split <;> omega

/-- Both bytes of a push are read back where both are stored. -/
theorem read_pushed {s : State} (hhi : storesAt s (s.sp - 1)) (hlo : storesAt s (s.sp - 2)) (v : Word) :
    (pushed s v).read (s.sp - 2) = some (lowByte v) ∧ (pushed s v).read (s.sp - 1) = some (highByte v) := by
  have hlo' := storesAt_write hhi.1 (highByte v) hlo
  have hne : home (s.sp - 1) ≠ home (s.sp - 2) := home_ne_of_succ hlo.1 (by have := hlo.1; have := hhi.1; bv_omega)
  have hlow : ¬(s.sp - 2).toNat < 0x8000 := Nat.not_lt.2 hlo.1
  constructor
  · exact State.read_write_self hlo' (lowByte v)
  · exact (State.read_write_of_ne_home hne (fun h => absurd h hlow) (lowByte v)).trans
      (State.read_write_self hhi (highByte v))

/-- Settles O24: the pop finds the word that was pushed, with SP where it was before the push. -/
theorem popUndoesPush : Obligations.PopUndoesPush := by
  intro s p q hhi hlo
  obtain ⟨hlow, hhigh⟩ := read_pushed hhi hlo (s.stackPair p)
  have hup : s.sp - 2 + 1 = s.sp - 1 := by bv_omega
  have hback : s.sp - 2 + 2 = s.sp := by bv_omega
  have hpop : exec (Instr.pop q) (pushed s (s.stackPair p)) =
      .next ({ pushed s (s.stackPair p) with sp := s.sp - 2 + 2 }.setStackPair q (s.stackPair p)) := by
    have h := exec_pop_of_read (s := pushed s (s.stackPair p)) hlow (by rwa [← hup] at hhigh) q
    rwa [wordOf_highByte_lowByte] at h
  rw [hback] at hpop
  refine ⟨_, _, ?push, hpop, ?sp, ?pair, fun hpq => ?whole⟩
  case push => rw [exec_push, pushPair, State.push16_eq_pushed]
  case sp => rw [State.setStackPair_sp]
  case pair =>
    by_cases hq : q = .af
    · rw [hq, State.stackPair_setStackPair_af, if_pos rfl]
    · rw [State.stackPair_setStackPair _ _ hq, if_neg hq]
  case whole =>
    subst hpq
    exact State.setStackPair_eq_self (State.stackPair_pushed s _ p)

end Sys2Proof.Machine
end

section
/-! The opcode pages and the encoder agree: what the first byte of every encoding stands for, what every first byte
encodes back to, and the obligations on decoding and encoding (R300 to R332). -/
namespace Sys2Proof
open Sys2Proof.Machine Sys2Proof.Claims

/-! ### The first byte of each grid (R316, R320) -/

theorem onePage_ldReg (dst r : Reg8) :
    onePage (0b01#2 ++ regCode dst ++ regCode r) = .op (Instr.ldReg dst r) := by
  cases dst <;> cases r <;> rfl

theorem onePage_ldImm (dst : Reg8) : onePage (0b00#2 ++ regCode dst ++ 0b110#3) = .imm8 (Instr.ldImm dst) := by
  cases dst <;> rfl

theorem onePage_ldFromHL (dst : Reg8) :
    onePage (0b01#2 ++ regCode dst ++ 0b110#3) = .op (Instr.ldFromHL dst) := by
  cases dst <;> rfl

theorem onePage_ldToHL (r : Reg8) : onePage (0b01#2 ++ 0b110#3 ++ regCode r) = .op (Instr.ldToHL r) := by
  cases r <;> rfl

theorem onePage_ldPair (p : RegPair) : onePage (0b00#2 ++ pairCode p ++ 0b0001#4) = .imm16 (Instr.ldPair p) := by
  cases p <;> rfl

theorem onePage_push (p : StackPair) : onePage (0b11#2 ++ stackCode p ++ 0b0101#4) = .op (Instr.push p) := by
  cases p <;> rfl

theorem onePage_pop (p : StackPair) : onePage (0b11#2 ++ stackCode p ++ 0b0001#4) = .op (Instr.pop p) := by
  cases p <;> rfl

theorem onePage_aluReg (op : AluOp) (r : Reg8) :
    onePage (0b10#2 ++ aluCode op ++ regCode r) = .op (Instr.aluReg op r) := by
  cases op <;> cases r <;> rfl

theorem onePage_aluHL (op : AluOp) : onePage (0b10#2 ++ aluCode op ++ 0b110#3) = .op (Instr.aluHL op) := by
  cases op <;> rfl

theorem onePage_aluImm (op : AluOp) : onePage (0b11#2 ++ aluCode op ++ 0b110#3) = .imm8 (Instr.aluImm op) := by
  cases op <;> rfl

theorem onePage_incReg (r : Reg8) : onePage (0b00#2 ++ regCode r ++ 0b100#3) = .op (Instr.incReg r) := by
  cases r <;> rfl

theorem onePage_decReg (r : Reg8) : onePage (0b00#2 ++ regCode r ++ 0b101#3) = .op (Instr.decReg r) := by
  cases r <;> rfl

theorem onePage_addHL (p : RegPair) : onePage (0b00#2 ++ pairCode p ++ 0b1001#4) = .op (Instr.addHL p) := by
  cases p <;> rfl

theorem onePage_incPair (p : RegPair) : onePage (0b00#2 ++ pairCode p ++ 0b0011#4) = .op (Instr.incPair p) := by
  cases p <;> rfl

theorem onePage_decPair (p : RegPair) : onePage (0b00#2 ++ pairCode p ++ 0b1011#4) = .op (Instr.decPair p) := by
  cases p <;> rfl

theorem onePage_jpCc (cc : Cond) : onePage (0b110#3 ++ condCode cc ++ 0b010#3) = .imm16 (Instr.jpCc cc) := by
  cases cc <;> rfl

theorem onePage_jrCc (cc : Cond) : onePage (0b001#3 ++ condCode cc ++ 0b000#3) = .imm8 (Instr.jrCc cc) := by
  cases cc <;> rfl

theorem onePage_callCc (cc : Cond) : onePage (0b110#3 ++ condCode cc ++ 0b100#3) = .imm16 (Instr.callCc cc) := by
  cases cc <;> rfl

theorem onePage_retCc (cc : Cond) : onePage (0b110#3 ++ condCode cc ++ 0b000#3) = .op (Instr.retCc cc) := by
  cases cc <;> rfl

theorem onePage_rst (b : BitIx) : onePage (0b11#2 ++ bitCode b ++ 0b111#3) = .op (Instr.rst b) := by
  cases b <;> rfl

theorem extendedPage_shiftReg (op : ShiftOp) (r : Reg8) :
    extendedPage (0b00#2 ++ shiftCode op ++ regCode r) = Instr.shiftReg op r := by
  cases op <;> cases r <;> rfl

theorem extendedPage_shiftHL (op : ShiftOp) : extendedPage (0b00#2 ++ shiftCode op ++ 0b110#3) = Instr.shiftHL op := by
  cases op <;> rfl

theorem extendedPage_bitReg (b : BitIx) (r : Reg8) :
    extendedPage (0b01#2 ++ bitCode b ++ regCode r) = Instr.bitReg b r := by
  cases b <;> cases r <;> rfl

theorem extendedPage_bitHL (b : BitIx) : extendedPage (0b01#2 ++ bitCode b ++ 0b110#3) = Instr.bitHL b := by
  cases b <;> rfl

theorem extendedPage_resReg (b : BitIx) (r : Reg8) :
    extendedPage (0b10#2 ++ bitCode b ++ regCode r) = Instr.resReg b r := by
  cases b <;> cases r <;> rfl

theorem extendedPage_resHL (b : BitIx) : extendedPage (0b10#2 ++ bitCode b ++ 0b110#3) = Instr.resHL b := by
  cases b <;> rfl

theorem extendedPage_setReg (b : BitIx) (r : Reg8) :
    extendedPage (0b11#2 ++ bitCode b ++ regCode r) = Instr.setReg b r := by
  cases b <;> cases r <;> rfl

theorem extendedPage_setHL (b : BitIx) : extendedPage (0b11#2 ++ bitCode b ++ 0b110#3) = Instr.setHL b := by
  cases b <;> rfl

/-! ### The two pages as one -/

/-- How the bytes of an instruction are laid out, by the form of its first byte (R301, R304). -/
inductive Encoded : Instr → Prop where
  | op {o : Byte} {i : Instr} (bytes : encode i = [o]) (form : onePage o = .op i) : Encoded i
  | imm8 {o : Byte} {k : Byte → Instr} {n : Byte} (bytes : encode (k n) = [o, n])
    (form : onePage o = .imm8 k) : Encoded (k n)
  | imm16 {o : Byte} {k : Word → Instr} {nn : Word} (bytes : encode (k nn) = [o, lowByte nn, highByte nn])
    (form : onePage o = .imm16 k) : Encoded (k nn)
  | extended {o : Byte} {i : Instr} (bytes : encode i = [0xCB, o]) (form : extendedPage o = i) : Encoded i

/-- The encoder lays out every well-formed instruction as the pages read it. -/
theorem encoded_of_wellFormed {i : Instr} (h : i.wellFormed = true) : Encoded i := by
  cases i using Instr.byForm with
  | ldReg dst r => exact .op (encode_ldReg dst r) (onePage_ldReg dst r)
  | ldFromHL dst => exact .op (encode_ldFromHL dst) (onePage_ldFromHL dst)
  | ldToHL r => exact .op (encode_ldToHL r) (onePage_ldToHL r)
  | push p => exact .op (encode_push p) (onePage_push p)
  | pop p => exact .op (encode_pop p) (onePage_pop p)
  | aluReg op r => exact .op (encode_aluReg op r) (onePage_aluReg op r)
  | aluHL op => exact .op (encode_aluHL op) (onePage_aluHL op)
  | incReg r => exact .op (encode_incReg r) (onePage_incReg r)
  | decReg r => exact .op (encode_decReg r) (onePage_decReg r)
  | addHL p => exact .op (encode_addHL p) (onePage_addHL p)
  | incPair p => exact .op (encode_incPair p) (onePage_incPair p)
  | decPair p => exact .op (encode_decPair p) (onePage_decPair p)
  | retCc cc => exact .op (encode_retCc cc) (onePage_retCc cc)
  | rst b => exact .op (encode_rst b) (onePage_rst b)
  | ldImm dst n => exact .imm8 (encode_ldImm dst n) (onePage_ldImm dst)
  | aluImm op n => exact .imm8 (encode_aluImm op n) (onePage_aluImm op)
  | jrCc cc n => exact .imm8 (encode_jrCc cc n) (onePage_jrCc cc)
  | ldPair p nn => exact .imm16 (encode_ldPair p nn) (onePage_ldPair p)
  | jpCc cc nn => exact .imm16 (encode_jpCc cc nn) (onePage_jpCc cc)
  | callCc cc nn => exact .imm16 (encode_callCc cc nn) (onePage_callCc cc)
  | shiftReg op r => exact .extended (encode_shiftReg op r) (extendedPage_shiftReg op r)
  | shiftHL op => exact .extended (encode_shiftHL op) (extendedPage_shiftHL op)
  | bitReg b r => exact .extended (encode_bitReg b r) (extendedPage_bitReg b r)
  | bitHL b => exact .extended (encode_bitHL b) (extendedPage_bitHL b)
  | resReg b r => exact .extended (encode_resReg b r) (extendedPage_resReg b r)
  | resHL b => exact .extended (encode_resHL b) (extendedPage_resHL b)
  | setReg b r => exact .extended (encode_setReg b r) (extendedPage_setReg b r)
  | setHL b => exact .extended (encode_setHL b) (extendedPage_setHL b)
  | stop n => exact .imm8 (k := .stop) rfl rfl
  | jr_e n => exact .imm8 (k := .jr_e) rfl rfl
  | ld_atHL_n n => exact .imm8 (k := .ld_atHL_n) rfl rfl
  | ldh_atN_A n => exact .imm8 (k := .ldh_atN_A) rfl rfl
  | ldh_A_atN n => exact .imm8 (k := .ldh_A_atN) rfl rfl
  | add_SP_e n => exact .imm8 (k := .add_SP_e) rfl rfl
  | ld_HL_SPe n => exact .imm8 (k := .ld_HL_SPe) rfl rfl
  | ld_atNn_SP nn => exact .imm16 (k := .ld_atNn_SP) rfl rfl
  | jp_nn nn => exact .imm16 (k := .jp_nn) rfl rfl
  | call_nn nn => exact .imm16 (k := .call_nn) rfl rfl
  | ld_atNn_A nn => exact .imm16 (k := .ld_atNn_A) rfl rfl
  | ld_A_atNn nn => exact .imm16 (k := .ld_A_atNn) rfl rfl
  | prefixCb => cases h
  | nop | ld_atBC_A | rlca | ld_A_atBC | rrca | ld_atDE_A | rla | ld_A_atDE | rra | ld_atHLinc_A | daa |
  ld_A_atHLinc | cpl | ld_atHLdec_A | inc_atHL | dec_atHL | scf | ld_A_atHLdec | ccf | halt | ret | reti |
  ld_atC_A | jp_HL | ld_A_atC | di | ld_SP_HL | ei | illegal_D3 | illegal_DB | illegal_DD | illegal_E3 |
  illegal_E4 | illegal_EB | illegal_EC | illegal_ED | illegal_F4 | illegal_FC | illegal_FD => exact .op rfl rfl

/-- The reverse of `Encoded`: with any immediate byte `n` or word `nn`, what a first byte stands for is encoded with
that byte in front. -/
def Form.EncodesFrom (o : Byte) (f : Form) : Prop :=
  ∀ (n : Byte) (nn : Word),
    match f with
    | .op i => encode i = [o]
    | .imm8 k => encode (k n) = [o, n]
    | .imm16 k => encode (k nn) = [o, lowByte nn, highByte nn]
    | .escape => o = 0xCB

/-- The one-byte page against the encoder, byte by byte (R320). -/
theorem onePage_encodesFrom (o : Byte) : (onePage o).EncodesFrom o := by
  obtain ⟨o⟩ := o
  fin_cases o
  all_goals exact fun _ _ => rfl

/-- The extended page against the encoder, byte by byte (R316, R322). -/
theorem encode_extendedPage (o : Byte) : encode (extendedPage o) = [0xCB, o] := by
  revert o
  decide

theorem Instr.wellFormed_iff {i : Instr} : i.wellFormed = true ↔ i ≠ .prefixCb := by
  unfold Instr.wellFormed
  split
  · simp
  · simp_all

/-- The escape byte alone is the only instruction that starts with the escape and has no second byte. -/
theorem Instr.wellFormed_of_encode {i : Instr} (h : encode i ≠ [0xCB]) : i.wellFormed = true :=
  Instr.wellFormed_iff.2 fun e => h (e ▸ rfl)

/-! ### The obligations -/

/-- Settles O57: the first byte of an encoding stands for the instruction or for what takes its immediate, which
`decode` then reads back. -/
theorem decodeUndoesEncode : Obligations.DecodeUndoesEncode := by
  intro i rest h
  cases encoded_of_wellFormed h with
  | op bytes form => rw [bytes]; exact decode_op form rest
  | imm8 bytes form => rw [bytes]; exact decode_imm8 form _ rest
  | imm16 bytes form => rw [bytes]; exact decode_imm16 form _ rest
  | extended bytes form => rw [bytes, ← form]; exact decode_extended _ rest

/-- What `decode` reads is the encoding of what it answers. -/
theorem eq_encode_append_of_decode {bytes rest : List Byte} {i : Instr} (h : decode bytes = .ok (i, rest)) :
    bytes = encode i ++ rest := by
  obtain ⟨o, tail, rfl, hcases⟩ := decode_cases h
  have page (f : Form) (hf : onePage o = f) : f.EncodesFrom o := hf ▸ onePage_encodesFrom o
  rcases hcases with ⟨hf, rfl⟩ | ⟨k, n, hf, rfl, rfl⟩ | ⟨k, lo, hi, hf, rfl, rfl⟩ |
    ⟨hf, ⟨o2, rfl, rfl⟩ | ⟨rfl, rfl, rfl⟩⟩
  · have e : encode i = [o] := page _ hf 0 0
    rw [e]; rfl
  · have e : encode (k n) = [o, n] := page _ hf n 0
    rw [e]; rfl
  · have e : encode (k (wordOf hi lo)) = [o, lowByte (wordOf hi lo), highByte (wordOf hi lo)] :=
      page _ hf 0 (wordOf hi lo)
    rw [e, lowByte_wordOf, highByte_wordOf]; rfl
  · have e : o = 0xCB := page _ hf 0 0
    rw [e, encode_extendedPage]; rfl
  · have e : o = 0xCB := page _ hf 0 0
    rw [e]; rfl

theorem instrLength_pos (o : Byte) : 1 ≤ instrLength o := by
  unfold instrLength
  split <;> decide

/-- With the bytes the first one asks for, `decode` answers, and leaves the bytes after them (R300, R303). -/
theorem decode_of_instrLength_le {o : Byte} {vs : List Byte} (h : instrLength o ≤ 1 + vs.length) :
    ∃ i, decode (o :: vs) = .ok (i, vs.drop (instrLength o - 1)) ∧ i.wellFormed = true := by
  have page : (onePage o).EncodesFrom o := onePage_encodesFrom o
  unfold instrLength at h ⊢
  cases hf : onePage o with
  | op i =>
    rw [hf] at page
    have e : encode i = [o] := page 0 0
    refine ⟨i, decode_op hf vs, Instr.wellFormed_of_encode fun escape => ?_⟩
    obtain rfl : o = 0xCB := List.singleton_inj.1 (e.symm.trans escape)
    cases hf
  | imm8 k =>
    rw [hf] at page h
    rcases vs with _ | ⟨n, vs⟩
    · cases Nat.not_succ_le_self 1 h
    · have e : encode (k n) = [o, n] := page n 0
      exact ⟨k n, decode_imm8 hf n vs, Instr.wellFormed_of_encode (by simp [e])⟩
  | imm16 k =>
    rw [hf] at page h
    rcases vs with _ | ⟨lo, _ | ⟨hi, vs⟩⟩
    · simp at h
    · simp at h
    · have e : encode (k (wordOf hi lo)) = [o, _, _] := page 0 (wordOf hi lo)
      exact ⟨k (wordOf hi lo), by simp [decode, hf], Instr.wellFormed_of_encode (by simp [e])⟩
  | escape =>
    rw [hf] at h
    rcases vs with _ | ⟨o2, vs⟩
    · cases Nat.not_succ_le_self 1 h
    · exact ⟨extendedPage o2, by simp [decode, hf],
        Instr.wellFormed_of_encode (by simp [encode_extendedPage])⟩

/-- Settles O58: the page of the first byte against the encoder, and the bytes that page asks for. -/
theorem decodedBytesAreTheEncoding : Obligations.DecodedBytesAreTheEncoding := by
  refine ⟨fun _ _ _ h => eq_encode_append_of_decode h, fun o vs h => ?total⟩
  case total =>
    obtain ⟨i, hi, hwf⟩ := decode_of_instrLength_le h
    refine ⟨i, _, hi, hwf, ?_⟩
    have hlength := congrArg List.length (eq_encode_append_of_decode hi)
    have hpos := instrLength_pos o
    rw [List.length_cons, List.length_append, List.length_drop] at hlength
    omega

end Sys2Proof
end

section
/-! The cycle counts of the instructions, and the obligation on them (R920, R922). -/
namespace Sys2Proof.Machine
open Sys2Proof.Claims

/-- The taken count exactly when the condition holds (R922). -/
theorem cycles_of_condition {i : Instr} {cc : Cond} {n : Nat} (h : takenCycles i = some (cc, n)) (f : Flags) :
    (holds f cc → cycles i f = n) ∧ (¬holds f cc → cycles i f = baseCycles i) := by
  simp only [cycles, h]
  exact ⟨fun hc => if_pos ((cond_iff_holds f cc).2 hc), fun hc => if_neg (mt (cond_iff_holds f cc).1 hc)⟩

theorem takenCycles_jpCc (cc : Cond) (nn : Word) : takenCycles (Instr.jpCc cc nn) = some (cc, 16) := by
  cases cc <;> rfl

theorem takenCycles_jrCc (cc : Cond) (e : Byte) : takenCycles (Instr.jrCc cc e) = some (cc, 12) := by
  cases cc <;> rfl

theorem takenCycles_callCc (cc : Cond) (nn : Word) : takenCycles (Instr.callCc cc nn) = some (cc, 24) := by
  cases cc <;> rfl

theorem takenCycles_retCc (cc : Cond) : takenCycles (Instr.retCc cc) = some (cc, 20) := by
  cases cc <;> rfl

/-- Settles O60: each grid has one count, which its rows of the table give; a conditional transfer has two. -/
theorem cycleCounts : Obligations.CycleCounts := by
  intro f
  refine ⟨?four, fun _ => rfl, ?ldReg, ?regForms, ?eight, ?immediates, ?pairs, ?stack, ?aluReg, ?alu, rfl, rfl, rfl,
    rfl, ?bitHL, ?bitReg, ?shiftReg, ?shiftHL, ?conditional⟩
  case four | eight => intro i hi; fin_cases hi <;> rfl
  case ldReg => intro dst r; cases dst <;> cases r <;> rfl
  case regForms => intro r n; cases r <;> exact ⟨rfl, rfl, rfl, rfl, rfl⟩
  case immediates => exact fun _ _ => ⟨rfl, rfl, rfl, rfl, rfl, rfl, rfl, rfl, rfl, rfl, rfl⟩
  case pairs => intro p nn; cases p <;> exact ⟨rfl, rfl, rfl, rfl⟩
  case stack => intro p; cases p <;> exact ⟨rfl, rfl⟩
  case aluReg => intro op r; cases op <;> cases r <;> rfl
  case alu => intro op n; cases op <;> exact ⟨rfl, rfl⟩
  case bitHL => intro b; cases b <;> exact ⟨rfl, rfl, rfl, rfl⟩
  case bitReg => intro b r; cases b <;> cases r <;> exact ⟨rfl, rfl, rfl⟩
  case shiftReg => intro op r; cases op <;> cases r <;> rfl
  case shiftHL => intro op; cases op <;> rfl
  case conditional =>
    intro cc nn e
    obtain ⟨jpTaken, jpNot⟩ := cycles_of_condition (takenCycles_jpCc cc nn) f
    obtain ⟨jrTaken, jrNot⟩ := cycles_of_condition (takenCycles_jrCc cc e) f
    obtain ⟨callTaken, callNot⟩ := cycles_of_condition (takenCycles_callCc cc nn) f
    obtain ⟨retTaken, retNot⟩ := cycles_of_condition (takenCycles_retCc cc) f
    refine ⟨fun h => ⟨jpTaken h, jrTaken h, callTaken h, retTaken h⟩, fun h => ?_⟩
    rw [jpNot h, jrNot h, callNot h, retNot h]
    cases cc <;> exact ⟨rfl, rfl, rfl, rfl⟩

end Sys2Proof.Machine
end

section
/-! The footprint of an instruction: what its encoding says it writes, and the states it can reach by writing no more.
One law says that every well-formed instruction stays inside its footprint; the frames follow from it. -/
namespace Sys2Proof.Machine
open Sys2Proof.Claims

/-- IME, the delayed-enable counter, the repeat latch and, but for a stop at an unwritten byte, the run state are
written by these instructions only (R708, R752 to R757). -/
def Instr.writesControl : Instr → Bool
  | .di | .ei | .reti | .halt | .stop _ => true
  | .illegal_D3 | .illegal_DB | .illegal_DD | .illegal_E3 | .illegal_E4 | .illegal_EB | .illegal_EC | .illegal_ED
  | .illegal_F4 | .illegal_FC | .illegal_FD => true
  | _ => false

/-- What an instruction may write. -/
structure Footprint where
  flags : Bool
  regs : List Reg8
  sp : Bool
  stores : List Word
  control : Bool

/-- What the instruction's encoding says it writes, in the words of the statements. -/
def footprint (i : Instr) (s : State) : Footprint where
  flags := writesFlags i
  regs := writtenRegs i
  sp := writesSP i
  stores := storedAddresses i s
  control := Instr.writesControl i

/-- The states that can be reached from `s` by writing inside a footprint. PC may always move, and a read of an
unwritten byte may always stop the machine (R206, R841). -/
inductive Footprint.Reaches (p : Footprint) (s : State) : State → Prop where
  | refl : p.Reaches s s
  | reg {t : State} (ht : p.Reaches s t) {r : Reg8} (v : Byte) (hr : r ∈ p.regs) : p.Reaches s (t.setReg r v)
  | flags {t : State} (ht : p.Reaches s t) (f : Flags) (hf : p.flags = true) : p.Reaches s { t with f := f }
  | sp {t : State} (ht : p.Reaches s t) (v : Word) (hsp : p.sp = true) : p.Reaches s { t with sp := v }
  | pc {t : State} (ht : p.Reaches s t) (v : Word) : p.Reaches s { t with pc := v }
  | write {t : State} (ht : p.Reaches s t) {x : Word} (v : Byte) (hx : x ∈ p.stores) : p.Reaches s (t.write x v)
  | control {t : State} (ht : p.Reaches s t) (ime : Bool) (d : Fin 3) (run : RunState) (latch : Bool)
      (hc : p.control = true) : p.Reaches s { t with ime := ime, eiDelay := d, run := run, haltRepeat := latch }
  | stop {t : State} (ht : p.Reaches s t) {x : Word} (hx : t.read x = none) : p.Reaches s (t.uninitialized x)

theorem ramAddress_of_read_eq_none {s : State} {x : Word} (h : s.read x = none) : ramAddress x := by
  have hx := State.read_eq_none h
  rw [region_eq_cartRam, region_eq_array, region_eq_echo] at hx
  unfold ramAddress
  omega

namespace Footprint.Reaches

section
variable {p : Footprint} {s t : State}

/-! ### What every reached state has kept -/

theorem keeps_flags (h : p.Reaches s t) (hp : p.flags = false) : t.f = s.f := by
  induction h with
  | refl => rfl
  | flags _ _ hf => simp [hp] at hf
  | _ => simp_all

theorem keeps_reg (h : p.Reaches s t) {r : Reg8} (hr : r ∉ p.regs) : t.reg r = s.reg r := by
  induction h with
  | refl => rfl
  | reg _ v hq ih => rw [State.reg_setReg_of_ne _ _ _ v (by rintro rfl; exact hr hq), ih]
  | write _ v _ ih => rw [State.write_reg, ih]
  | _ => rename_i ih; rw [← ih]; cases r <;> rfl

theorem keeps_sp (h : p.Reaches s t) (hp : p.sp = false) : t.sp = s.sp := by
  induction h with
  | refl => rfl
  | sp _ _ hsp => simp [hp] at hsp
  | _ => simp_all

theorem keeps_read (h : p.Reaches s t) {y : Word}
    (hy : ∀ x ∈ p.stores, home y ≠ home x ∧ (x.toNat < 0x8000 → ¬banked y)) : t.read y = s.read y := by
  induction h with
  | refl => rfl
  | reg _ _ _ ih => rw [State.read_setReg, ih]
  | write _ v hx ih => rw [State.read_write_of_ne_home (hy _ hx).1 (hy _ hx).2, ih]
  | _ => rename_i ih; exact ih

theorem keeps_memory (h : p.Reaches s t) (hp : p.stores = []) :
    t.mem = s.mem ∧ t.cart = s.cart ∧ t.bank = s.bank ∧ t.io = s.io ∧ t.ifReg = s.ifReg ∧
      t.ieReg = s.ieReg := by
  induction h with
  | refl => exact ⟨rfl, rfl, rfl, rfl, rfl, rfl⟩
  | write _ _ hx => simp [hp] at hx
  | _ => simp_all

theorem keeps_control (h : p.Reaches s t) (hp : p.control = false) :
    t.ime = s.ime ∧ t.eiDelay = s.eiDelay ∧ t.haltRepeat = s.haltRepeat := by
  induction h with
  | refl => exact ⟨rfl, rfl, rfl⟩
  | control _ _ _ _ _ hc => simp [hp] at hc
  | _ => simp_all

/-- No meaning writes the model's own fields (log entries 7, 11, 12). -/
theorem keeps_model (h : p.Reaches s t) :
    t.haltBug = s.haltBug ∧ t.start = s.start ∧ t.report = s.report := by
  induction h with
  | refl => exact ⟨rfl, rfl, rfl⟩
  | _ => simp_all

/-- Only a stop at an unwritten byte changes the run state of an instruction that names no control state. -/
theorem run_cases (h : p.Reaches s t) (hp : p.control = false) :
    t.run = s.run ∨ ∃ x, ramAddress x ∧ t.run = .faulted (.uninitializedRead x s.start) := by
  induction h with
  | refl => exact .inl rfl
  | control _ _ _ _ _ hc => simp [hp] at hc
  | stop ht hx ih =>
    refine .inr ⟨_, ramAddress_of_read_eq_none hx, ?_⟩
    rw [← ht.keeps_model.2.1]
    rfl
  | _ => simp_all

/-! ### The shared operations -/

theorem memRead (h : p.Reaches s t) {x : Word} {k : Byte → Result} (hk : ∀ v, Answers (p.Reaches s) (k v)) :
    Answers (p.Reaches s) (t.memRead x k) := by
  rcases t.memRead_cases x k with ⟨v, -, e⟩ | ⟨hx, e⟩ <;> rw [e]
  · exact hk v
  · exact answers_next.2 (h.stop hx)

theorem pop16 (h : p.Reaches s t) (hsp : p.sp = true) {k : Word → State → Result}
    (hk : ∀ v u, p.Reaches s u → Answers (p.Reaches s) (k v u)) : Answers (p.Reaches s) (t.pop16 k) := by
  rcases t.pop16_cases k with ⟨lo, hi, -, -, e⟩ | ⟨hx, e⟩ | ⟨lo, -, hx, e⟩ <;> rw [e]
  · exact hk _ _ (h.sp _ hsp)
  · exact answers_next.2 (h.stop hx)
  · exact answers_next.2 ((h.sp _ hsp).stop hx)

/-- A push from the state the footprint is of, whose stack bytes are its two stores. -/
theorem push16 (hsp : p.sp = true) (hstores : p.stores = [s.sp - 1, s.sp - 2]) (v : Word) :
    p.Reaches s (s.push16 v) := by
  have hhi : s.sp - 1 ∈ p.stores := by simp [hstores]
  have hlo : s.sp - 2 ∈ p.stores := by simp [hstores]
  rw [State.push16_eq_pushed]
  exact ((refl.write _ hhi).write _ hlo).sp _ hsp

theorem regs (h : p.Reaches s t) {q r : Reg8} (v w : Byte) (hr : [q, r] ⊆ p.regs) :
    p.Reaches s ((t.setReg q v).setReg r w) :=
  (h.reg v (hr List.mem_cons_self)).reg w (hr (by simp))

theorem setHL (h : p.Reaches s t) (v : Word) (hr : [.h, .l] ⊆ p.regs) : p.Reaches s (t.setHL v) :=
  h.regs (highByte v) (lowByte v) hr

theorem setPair (h : p.Reaches s t) {q : RegPair} (v : Word) (hr : pairRegs (pairCode q).toNat ⊆ p.regs)
    (hsp : q = .sp → p.sp = true) : p.Reaches s (t.setPair q v) := by
  cases q with
  | bc | de => exact h.regs (highByte v) (lowByte v) hr
  | hl => exact h.setHL v hr
  | sp => exact h.sp v (hsp rfl)

theorem setStackPair (h : p.Reaches s t) {q : StackPair} (v : Word)
    (hr : (if q = .af then [.a] else pairRegs (stackCode q).toNat) ⊆ p.regs) (hf : q = .af → p.flags = true) :
    p.Reaches s (t.setStackPair q v) := by
  cases q with
  | bc | de => exact h.regs (highByte v) (lowByte v) hr
  | hl => exact h.setHL v hr
  | af => exact (h.reg (r := .a) _ (hr (by decide))).flags _ (hf rfl)

theorem aluOnByte (h : p.Reaches s t) {op : AluOp} (v : Byte) (hf : p.flags = true)
    (hr : (if op = .cp then [] else [.a]) ⊆ p.regs) : Answers (p.Reaches s) (aluOnByte op v t) := by
  refine answers_next.2 ?_
  cases op with
  | cp => exact h.flags _ hf
  | _ => exact (h.reg (r := .a) _ (hr (by decide))).flags _ hf

theorem call (hsp : p.sp = true) (hstores : p.stores = [s.sp - 1, s.sp - 2]) (target : Word) :
    Answers (p.Reaches s) (call target s) :=
  answers_next.2 ((push16 hsp hstores _).pc _)

theorem ret (hsp : p.sp = true) : Answers (p.Reaches s) (ret s) :=
  refl.pop16 hsp fun _ _ hu => answers_next.2 (hu.pc _)

theorem illegalOpcode (hc : p.control = true) (op : Byte) : Answers (p.Reaches s) (illegalOpcode op s) :=
  answers_next.2 ((refl.pc _).control _ _ _ _ hc)

end
end Footprint.Reaches

end Sys2Proof.Machine
end

section
/-! Every well-formed instruction stays inside the footprint of its encoding, form by form. -/
namespace Sys2Proof.Machine
open Sys2Proof.Claims

/-- A call that is taken stores to the stack (R707). -/
theorem storedAddresses_callCc {cc : Cond} {s : State} (h : s.f.cond cc = true) (nn : Word) :
    storedAddresses (Instr.callCc cc nn) s = [s.sp - 1, s.sp - 2] := by
  cases cc <;> simp_all [Instr.callCc, storedAddresses, encode, Flags.cond]

theorem immediateWord_eq (o : Byte) (nn : Word) : immediateWord [o, lowByte nn, highByte nn] = nn :=
  wordOf_highByte_lowByte nn

open Footprint.Reaches in
/-- Every well-formed instruction stays inside the footprint of its encoding. -/
theorem exec_reaches {i : Instr} (h : i.wellFormed = true) (s : State) :
    Answers ((footprint i s).Reaches s) (exec i s) := by
  cases i using Instr.byForm with
  | ldReg dst r =>
    rw [exec_ldReg]
    exact answers_next.2 (refl.reg _ (by cases dst <;> cases r <;> exact List.mem_cons_self))
  | ldImm dst n =>
    rw [exec_ldImm]
    exact answers_next.2 (refl.reg _ (by cases dst <;> exact List.mem_cons_self))
  | ldFromHL dst =>
    rw [exec_ldFromHL]
    exact refl.memRead fun _ => answers_next.2 (refl.reg _ (by cases dst <;> exact List.mem_cons_self))
  | ldToHL r =>
    rw [exec_ldToHL]
    exact answers_next.2 (refl.write _ (by cases r <;> exact List.mem_cons_self))
  | ldPair p nn =>
    rw [exec_ldPair]
    exact answers_next.2 (refl.setPair _ (by cases p <;> exact List.Subset.refl _) (by rintro rfl; rfl))
  | push p =>
    rw [exec_push]
    exact answers_next.2 (push16 (by cases p <;> rfl) (by cases p <;> rfl) _)
  | pop p =>
    rw [exec_pop]
    exact refl.pop16 (by cases p <;> rfl) fun _ _ hu => answers_next.2
      (hu.setStackPair _ (by cases p <;> exact List.Subset.refl _) (by rintro rfl; rfl))
  | aluReg op r =>
    rw [exec_aluReg]
    exact refl.aluOnByte _ (by cases op <;> cases r <;> rfl)
      (by cases op <;> cases r <;> exact List.Subset.refl _)
  | aluHL op =>
    rw [exec_aluHL]
    exact refl.memRead fun _ => refl.aluOnByte _ (by cases op <;> rfl)
      (by cases op <;> exact List.Subset.refl _)
  | aluImm op n =>
    rw [exec_aluImm]
    exact refl.aluOnByte _ (by cases op <;> rfl) (by cases op <;> exact List.Subset.refl _)
  | incReg r =>
    rw [exec_incReg]
    exact answers_next.2 ((refl.flags _ (by cases r <;> rfl)).reg _ (by cases r <;> exact List.mem_cons_self))
  | decReg r =>
    rw [exec_decReg]
    exact answers_next.2 ((refl.flags _ (by cases r <;> rfl)).reg _ (by cases r <;> exact List.mem_cons_self))
  | addHL p =>
    rw [exec_addHL]
    exact answers_next.2 ((refl.flags _ (by cases p <;> rfl)).setHL _ (by cases p <;> exact List.Subset.refl _))
  | incPair p =>
    rw [exec_incPair]
    exact answers_next.2 (refl.setPair _ (by cases p <;> exact List.Subset.refl _) (by rintro rfl; rfl))
  | decPair p =>
    rw [exec_decPair]
    exact answers_next.2 (refl.setPair _ (by cases p <;> exact List.Subset.refl _) (by rintro rfl; rfl))
  | shiftReg op r =>
    rw [exec_shiftReg]
    exact answers_next.2 ((refl.flags _ (by cases op <;> cases r <;> rfl)).reg _
      (by cases op <;> cases r <;> exact List.mem_cons_self))
  | shiftHL op =>
    rw [exec_shiftHL]
    exact refl.memRead fun _ => answers_next.2
      ((refl.write _ (by cases op <;> exact List.mem_cons_self)).flags _ (by cases op <;> rfl))
  | bitReg b r =>
    rw [exec_bitReg]
    exact answers_next.2 (refl.flags _ (by cases b <;> cases r <;> rfl))
  | bitHL b =>
    rw [exec_bitHL]
    exact refl.memRead fun _ => answers_next.2 (refl.flags _ (by cases b <;> rfl))
  | resReg b r =>
    rw [exec_resReg]
    exact answers_next.2 (refl.reg _ (by cases b <;> cases r <;> exact List.mem_cons_self))
  | resHL b =>
    rw [exec_resHL]
    exact refl.memRead fun _ => answers_next.2 (refl.write _ (by cases b <;> exact List.mem_cons_self))
  | setReg b r =>
    rw [exec_setReg]
    exact answers_next.2 (refl.reg _ (by cases b <;> cases r <;> exact List.mem_cons_self))
  | setHL b =>
    rw [exec_setHL]
    exact refl.memRead fun _ => answers_next.2 (refl.write _ (by cases b <;> exact List.mem_cons_self))
  | jpCc cc nn =>
    rw [exec_jpCc, jumpIf]
    split
    · exact answers_next.2 (refl.pc _)
    · exact answers_next.2 refl
  | jrCc cc e =>
    rw [exec_jrCc, jumpRelativeIf]
    split
    · exact answers_next.2 (refl.pc _)
    · exact answers_next.2 refl
  | callCc cc nn =>
    rw [exec_callCc, callIf]
    split
    · exact Footprint.Reaches.call (by cases cc <;> rfl) (storedAddresses_callCc ‹_› nn) nn
    · exact answers_next.2 refl
  | retCc cc =>
    rw [exec_retCc, retIf]
    split
    · exact Footprint.Reaches.ret (by cases cc <;> rfl)
    · exact answers_next.2 refl
  | rst b =>
    rw [exec_rst]
    exact Footprint.Reaches.call (by cases b <;> rfl) (by cases b <;> rfl) _
  | nop => exact answers_next.2 refl
  | ld_atBC_A | ld_atDE_A | ld_atHL_n n => exact answers_next.2 (refl.write _ List.mem_cons_self)
  | ld_atC_A => exact answers_next.2 (refl.write _ (List.mem_singleton.2 (highPage_eq_add s.c)))
  | ldh_atN_A n => exact answers_next.2 (refl.write _ (List.mem_singleton.2 (highPage_eq_add n)))
  | ld_atNn_A nn => exact answers_next.2 (refl.write _ (List.mem_singleton.2 (immediateWord_eq 0xEA nn).symm))
  | ld_A_atBC | ld_A_atDE | ld_A_atC | ldh_A_atN n | ld_A_atNn nn =>
    exact refl.memRead fun _ => answers_next.2 (refl.reg (r := .a) _ List.mem_cons_self)
  | ld_atHLinc_A | ld_atHLdec_A =>
    exact answers_next.2 ((refl.write _ List.mem_cons_self).setHL _ (List.Subset.refl _))
  | ld_A_atHLinc | ld_A_atHLdec =>
    exact refl.memRead fun _ => answers_next.2 ((refl.reg (r := .a) _ List.mem_cons_self).setHL _
      (List.subset_cons_self _ _))
  | rlca | rrca | rla | rra | daa | cpl =>
    exact answers_next.2 ((refl.reg (r := .a) _ List.mem_cons_self).flags _ rfl)
  | scf | ccf => exact answers_next.2 (refl.flags _ rfl)
  | inc_atHL | dec_atHL =>
    exact refl.memRead fun _ => answers_next.2 ((refl.write _ List.mem_cons_self).flags _ rfl)
  | ld_atNn_SP nn =>
    have hnn : nn ∈ storedAddresses (.ld_atNn_SP nn) s ∧ nn + 1 ∈ storedAddresses (.ld_atNn_SP nn) s := by
      simp [storedAddresses, encode, immediateWord_eq]
    exact answers_next.2 ((refl.write _ hnn.1).write _ hnn.2)
  | jr_e _ | jp_nn _ | jp_HL => exact answers_next.2 (refl.pc _)
  | call_nn nn => exact Footprint.Reaches.call rfl rfl nn
  | ret => exact Footprint.Reaches.ret rfl
  | reti => exact refl.pop16 rfl fun v u hu => answers_next.2 ((hu.pc v).control true 0 u.run u.haltRepeat rfl)
  | add_SP_e e => exact answers_next.2 ((refl.sp (addSPe s.sp e).1 rfl).flags (addSPe s.sp e).2 rfl)
  | ld_HL_SPe e => exact answers_next.2 ((refl.flags _ rfl).setHL _ (List.Subset.refl _))
  | ld_SP_HL => exact answers_next.2 (refl.sp _ rfl)
  | stop _ | di | ei => exact answers_next.2 (refl.control _ _ _ _ rfl)
  | halt =>
    rw [exec_halt, halt]
    split <;> exact answers_next.2 (refl.control _ _ _ _ rfl)
  | prefixCb => cases h
  | illegal_D3 | illegal_DB | illegal_DD | illegal_E3 | illegal_E4 | illegal_EB | illegal_EC | illegal_ED |
  illegal_F4 | illegal_FC | illegal_FD => exact Footprint.Reaches.illegalOpcode rfl _

end Sys2Proof.Machine
end

section
/-! Every instruction answers a next state, and so does every step; the obligations on the step and on the escape byte
(R208, R751, R842). -/
namespace Sys2Proof.Machine
open Sys2Proof.Claims

/-- The outcome is a next state: no fault outcome and no refusal. -/
def Responds (o : Result) : Prop := ∃ t, o = .next t

@[simp] theorem responds_next (t : State) : Responds (.next t) := ⟨t, rfl⟩

@[simp] theorem responds_ite {c : Prop} [Decidable c] {o p : Result} (ho : Responds o) (hp : Responds p) :
    Responds (if c then o else p) := by
  split
  · exact ho
  · exact hp

theorem responds_memRead (s : State) (x : Word) {k : Byte → Result} (hk : ∀ v, Responds (k v)) :
    Responds (s.memRead x k) := by
  rcases s.memRead_cases x k with ⟨v, -, e⟩ | ⟨-, e⟩ <;> rw [e]
  · exact hk v
  · exact responds_next _

theorem responds_pop16 (s : State) {k : Word → State → Result} (hk : ∀ v u, Responds (k v u)) :
    Responds (s.pop16 k) :=
  responds_memRead _ _ fun _ => responds_memRead _ _ fun _ => hk _ _

/-- Each form of instruction is a shared operation, and each of those is a next state, a memory read or a pop with a
rest that is one, or a choice of two that are. -/
theorem exec_responds {i : Instr} (h : i.wellFormed = true) (s : State) : Responds (exec i s) := by
  cases i using Instr.byForm
  case prefixCb => cases h
  all_goals simp [responds_memRead, responds_pop16, noOperation, loadReg, loadImm, loadFromHL, storeToHL, loadA,
    storeA, storeAStep, loadAStep, loadPair, storeSP, loadSPFromHL, pushPair, popPair, aluOnByte, aluOnHL,
    incrementReg, decrementReg, incrementHL, decrementHL, decimalAdjust, complementA, setCarry, complementCarry,
    addToHL, incrementPair, decrementPair, addToSP, loadHLFromSP, rotateA, shiftOnReg, shiftOnHL, testBitOnReg,
    testBitOnHL, resetBitOnReg, resetBitOnHL, setBitOnReg, setBitOnHL, jump, jumpIf, jumpRelative, jumpRelativeIf,
    call, callIf, ret, retIf, returnFromInterrupt, halt, stop, disableInterrupts, enableInterrupts, illegalOpcode]

/-- An extended instruction is a whole instruction. -/
theorem wellFormed_extendedPage (o : Byte) : (extendedPage o).wellFormed = true :=
  Instr.wellFormed_of_encode (by simp [encode_extendedPage])

/-- The escape is the extended instruction of the byte at PC (R751). -/
theorem exec_prefixCb_of_read {s : State} {o : Byte} (h : s.read s.pc = some o) :
    exec .prefixCb s = exec (extendedPage o) { s with pc := s.pc + 1 } := by
  rw [exec_prefixCb, escape, State.memRead_of_some h, exec_extendedPage]

/-- Settles O43: the escape goes on with the extended instruction, or stops at its second byte. -/
theorem escapeRunsTheExtendedInstruction : Obligations.EscapeRunsTheExtendedInstruction := by
  refine ⟨rfl, decode_extended, fun s => ⟨fun o ho => ?runs, fun h => ?stops⟩⟩
  case runs =>
    obtain ⟨t, ht⟩ := exec_responds (wellFormed_extendedPage o) { s with pc := s.pc + 1 }
    exact ⟨t, (exec_prefixCb_of_read ho).trans ht, ht⟩
  case stops => rw [exec_prefixCb, escape, State.memRead_eq_stoppedAt h]

end Sys2Proof.Machine
end

section
/-! The frames of the instructions, read off the footprint, and the obligations on them (R104, R105, R805). -/
namespace Sys2Proof.Machine
open Sys2Proof.Claims

/-! ### The flags that a partial writer keeps (R534, R536, R538 to R541, R550, R650) -/

/-- What holds of the state after a memory read, whether it goes on or stops. -/
theorem answers_memRead {P : State → Prop} {s : State} {x : Word} {k : Byte → Result}
    (hk : ∀ v, Answers P (k v)) (hstop : P (s.uninitialized x)) : Answers P (s.memRead x k) := by
  rcases s.memRead_cases x k with ⟨v, -, e⟩ | ⟨-, e⟩ <;> rw [e]
  · exact hk v
  · exact answers_next.2 hstop

theorem exec_incReg_keeps_carry (r : Reg8) (s : State) :
    Answers (fun t => t.f.c = s.f.c) (exec (Instr.incReg r) s) := by
  rw [exec_incReg, incrementReg, answers_next, State.setReg_f]
  rfl

theorem exec_decReg_keeps_carry (r : Reg8) (s : State) :
    Answers (fun t => t.f.c = s.f.c) (exec (Instr.decReg r) s) := by
  rw [exec_decReg, decrementReg, answers_next, State.setReg_f]
  rfl

theorem exec_bitReg_keeps_carry (b : BitIx) (r : Reg8) (s : State) :
    Answers (fun t => t.f.c = s.f.c) (exec (Instr.bitReg b r) s) := by
  rw [exec_bitReg]
  exact answers_next.2 rfl

theorem exec_bitHL_keeps_carry (b : BitIx) (s : State) :
    Answers (fun t => t.f.c = s.f.c) (exec (Instr.bitHL b) s) := by
  rw [exec_bitHL]
  exact answers_memRead (fun _ => answers_next.2 rfl) rfl

theorem exec_atHL_keeps_carry (s : State) :
    Answers (fun t => t.f.c = s.f.c) (exec .inc_atHL s) ∧ Answers (fun t => t.f.c = s.f.c) (exec .dec_atHL s) :=
  ⟨answers_memRead (fun _ => answers_next.2 rfl) rfl, answers_memRead (fun _ => answers_next.2 rfl) rfl⟩

theorem exec_addHL_keeps_zero (p : RegPair) (s : State) :
    Answers (fun t => t.f.z = s.f.z) (exec (Instr.addHL p) s) := by
  rw [exec_addHL]
  exact answers_next.2 rfl

/-- Settles O44: an instruction stays inside its footprint; the partial writers one by one. -/
theorem flagsFrame : Obligations.FlagsFrame := by
  intro s t
  refine ⟨fun i hwf h hf => (exec_reaches hwf s t h).keeps_flags hf,
    fun r h => h.elim (exec_incReg_keeps_carry r s t) (exec_decReg_keeps_carry r s t), ?carry,
    fun b r h => h.elim (exec_bitReg_keeps_carry b r s t) (exec_bitHL_keeps_carry b s t),
    fun p => exec_addHL_keeps_zero p s t, ?zero, ?negative⟩
  case carry =>
    rintro (h | h | h)
    · exact (exec_atHL_keeps_carry s).1 t h
    · exact (exec_atHL_keeps_carry s).2 t h
    · cases h; rfl
  case zero => rintro (h | h | h) <;> cases h <;> rfl
  case negative => intro h; cases h; rfl

/-- Settles O45: the footprint is that of the encoding, and what lies outside it is kept. -/
theorem registerFrame : Obligations.RegisterFrame := fun _ s t hwf h =>
  ⟨fun _ hr => (exec_reaches hwf s t h).keeps_reg hr, (exec_reaches hwf s t h).keeps_sp⟩

/-- Settles O46: every store is at an address of the footprint, and a write leaves the other bytes. -/
theorem memoryFrame : Obligations.MemoryFrame := fun _ s t hwf h =>
  ⟨fun _ hy => (exec_reaches hwf s t h).keeps_read hy, (exec_reaches hwf s t h).keeps_memory⟩

/-! ### The control state -/

/-- Each illegal byte is an instruction of its own, and executing it raises the fault (R330, R757). -/
theorem illegal_of_mem {o : Byte} (h : o ∈ illegalBytes) :
    ∃ i, onePage o = .op i ∧ encode i = [o] ∧ ∀ s, exec i s = illegalOpcode o s := by
  fin_cases h <;> exact ⟨_, rfl, rfl, fun _ => rfl⟩

/-- The instructions that name the control state. -/
theorem Instr.writesControl_cases {i : Instr} (h : writesControl i = true) :
    i = .di ∨ i = .ei ∨ i = .reti ∨ i = .halt ∨ (∃ n, i = .stop n) ∨
      ∃ o ∈ illegalBytes, encode i = [o] ∧ ∀ s, exec i s = illegalOpcode o s := by
  unfold Instr.writesControl at h
  split at h
  case h_1 | h_2 | h_3 | h_4 | h_5 => simp
  case h_17 => cases h
  all_goals
    refine .inr (.inr (.inr (.inr (.inr ⟨_, ?_, rfl, fun _ => rfl⟩))))
    decide

/-- What an instruction makes of the run state (R752, R753, R757, R841). -/
theorem exec_run_cases {i : Instr} (hwf : i.wellFormed = true) {s t : State} (h : exec i s = .next t) :
    t.run = s.run ∨ (i = .halt ∧ t.run = .halted) ∨ ((∃ n, i = .stop n) ∧ t.run = .stopped) ∨
      (∃ o ∈ illegalBytes, encode i = [o] ∧ t = s.illegal o) ∨
      ∃ x, ramAddress x ∧ t.run = .faulted (.uninitializedRead x s.start) := by
  cases hc : Instr.writesControl i with
  | false => exact ((exec_reaches hwf s t h).run_cases hc).imp_right fun hx => .inr (.inr (.inr hx))
  | true =>
    rcases Instr.writesControl_cases hc with rfl | rfl | rfl | rfl | ⟨n, rfl⟩ | ⟨o, ho, he, hi⟩
    · cases h; exact .inl rfl
    · cases h; exact .inl rfl
    · rw [exec_reti, returnFromInterrupt, State.pop16_eq_next] at h
      rcases h with ⟨_, _, _, _, h⟩ | ⟨hx, rfl⟩ | ⟨_, _, hx, rfl⟩
      · cases h; exact .inl rfl
      · exact .inr (.inr (.inr (.inr ⟨_, ramAddress_of_read_eq_none hx, rfl⟩)))
      · exact .inr (.inr (.inr (.inr ⟨_, ramAddress_of_read_eq_none hx, rfl⟩)))
    · rw [exec_halt, halt] at h
      split at h <;> cases h
      · exact .inl rfl
      · exact .inr (.inl ⟨rfl, rfl⟩)
    · cases h; exact .inr (.inr (.inl ⟨⟨n, rfl⟩, rfl⟩))
    · rw [hi, illegalOpcode] at h
      cases h
      exact .inr (.inr (.inr (.inl ⟨o, ho, he, rfl⟩)))

/-- RETI sets IME and clears the counter, or stops with both as they were (R710, R815). -/
theorem exec_reti_cases {s t : State} (h : exec .reti s = .next t) :
    t.haltRepeat = s.haltRepeat ∧
      ((t.ime = true ∧ t.eiDelay = 0) ∨ (t.ime = s.ime ∧ t.eiDelay = s.eiDelay ∧ ∃ r, t.run = .faulted r)) := by
  rw [exec_reti, returnFromInterrupt, State.pop16_eq_next] at h
  rcases h with ⟨_, _, _, _, h⟩ | ⟨_, rfl⟩ | ⟨_, _, _, rfl⟩
  · cases h; exact ⟨rfl, .inl ⟨rfl, rfl⟩⟩
  · exact ⟨rfl, .inr ⟨rfl, rfl, _, rfl⟩⟩
  · exact ⟨rfl, .inr ⟨rfl, rfl, _, rfl⟩⟩

/-- Every instruction but the six that name them keeps IME, the counter and the repeat latch, and of those six each
keeps what its rule does not name (R710, R752 to R757). -/
theorem exec_keeps_control {i : Instr} (hwf : i.wellFormed = true) {s t : State} (h : exec i s = .next t) :
    (i ≠ .di → i ≠ .reti → t.ime = s.ime) ∧ (i ≠ .di → i ≠ .ei → i ≠ .reti → t.eiDelay = s.eiDelay) ∧
      (i ≠ .halt → t.haltRepeat = s.haltRepeat) := by
  cases hc : Instr.writesControl i with
  | false =>
    obtain ⟨hime, hdelay, hlatch⟩ := (exec_reaches hwf s t h).keeps_control hc
    exact ⟨fun _ _ => hime, fun _ _ _ => hdelay, fun _ => hlatch⟩
  | true =>
    rcases Instr.writesControl_cases hc with rfl | rfl | rfl | rfl | ⟨n, rfl⟩ | ⟨o, -, -, hi⟩
    · cases h; simp
    · cases h; simp
    · simp [exec_reti_cases h]
    · rw [exec_halt, halt] at h
      split at h <;> cases h <;> simp
    · cases h; simp
    · rw [hi, illegalOpcode] at h
      cases h; simp

/-- Settles O47: the control state by the instructions that name it, the model's fields by the footprint. -/
theorem controlStateFrame : Obligations.ControlStateFrame := by
  intro i s t hwf h
  obtain ⟨hime, hdelay, hlatch⟩ := exec_keeps_control hwf h
  refine ⟨hime, hdelay, fun hhalt hstop => ?run, hlatch, (exec_reaches hwf s t h).keeps_model⟩
  case run =>
    rcases exec_run_cases hwf h with e | ⟨e, -⟩ | ⟨⟨n, e⟩, -⟩ | ⟨o, -, -, rfl⟩ | ⟨x, -, e⟩
    · exact .inl e
    · exact absurd e hhalt
    · exact absurd e (hstop n)
    · exact .inr ⟨_, rfl⟩
    · exact .inr ⟨_, e⟩

/-- Of what a whole instruction makes of the run state, only an illegal opcode is that fault. -/
theorem encode_of_illegalOpcode {i : Instr} (hwf : i.wellFormed = true) {s t : State} (h : exec i s = .next t)
    (hrun : s.run = .running) {p : Word} {o : Byte} (ht : t.run = .faulted (.illegalOpcode p o)) :
    o ∈ illegalBytes ∧ encode i = [o] := by
  rcases exec_run_cases hwf h with e | ⟨-, e⟩ | ⟨-, e⟩ | ⟨q, hq, he, rfl⟩ | ⟨x, -, e⟩
  · rw [ht, hrun] at e; cases e
  · rw [ht] at e; cases e
  · rw [ht] at e; cases e
  · cases ht; exact ⟨hq, he⟩
  · rw [ht] at e; cases e

/-- Settles O42: the illegal opcodes raise the fault; no other whole instruction does, and so the escape, which runs
one, does not. -/
theorem illegalOpcodes : Obligations.IllegalOpcodes := by
  refine ⟨?raises, fun o ho => ?decodes, fun i s t p o h hrun ht => ?only⟩
  case raises =>
    rintro i ⟨o, ho, he⟩ s
    obtain ⟨j, hform, -, hj⟩ := illegal_of_mem ho
    have hwf : i.wellFormed = true := Instr.wellFormed_of_encode fun e => by
      obtain rfl : o = 0xCB := List.singleton_inj.1 (he.symm.trans e)
      exact absurd ho (by decide)
    have hdecode := decodeUndoesEncode i [] hwf
    rw [he, List.append_nil, decode_op hform] at hdecode
    cases hdecode
    exact ⟨o, he, hj s⟩
  case decodes =>
    obtain ⟨i, hform, he, -⟩ := illegal_of_mem ho
    exact ⟨i, he, decode_op hform []⟩
  case only =>
    by_cases hescape : i = .prefixCb
    · subst hescape
      cases hq : s.read s.pc with
      | some q =>
        rw [exec_prefixCb_of_read hq] at h
        have he := (encode_of_illegalOpcode (wellFormed_extendedPage q) h hrun ht).2
        rw [encode_extendedPage] at he
        cases he
      | none =>
        rw [exec_prefixCb, escape, State.memRead_of_none hq] at h
        cases h
        cases ht
    · exact encode_of_illegalOpcode (Instr.wellFormed_iff.2 hescape) h hrun ht

end Sys2Proof.Machine
end

section
/-! Fetching an instruction, in the words of the statements: the bytes that stand at PC, or the first that was never
written (R206, R251, R820). -/
namespace Sys2Proof.Machine
open Sys2Proof.Claims

/-- Which bytes stand at an address depends on what reads give, and on nothing else. -/
theorem bytesAt_congr {s t : State} (h : ∀ x, t.read x = s.read x) (x : Word) (vs : List Byte) :
    bytesAt t x vs ↔ bytesAt s x vs := by
  induction vs generalizing x with
  | nil => exact Iff.rfl
  | cons b vs ih => exact and_congr (by rw [h]) (ih (x + 1))

theorem word_add_succ (x : Word) (n : Nat) : x + 1 + BitVec.ofNat 16 n = x + BitVec.ofNat 16 (n + 1) := by
  rw [BitVec.add_assoc, Nat.add_comm, BitVec.ofNat_add]
  rfl

/-- Up to `n` bytes at `x`: all of them were written, or there is a first one that was not. -/
theorem bytesAt_cases (s : State) (x : Word) (n : Nat) :
    (∃ vs, vs.length = n ∧ bytesAt s x vs) ∨
      ∃ vs, vs.length < n ∧ bytesAt s x vs ∧ s.read (x + BitVec.ofNat 16 vs.length) = none := by
  induction n generalizing x with
  | zero => exact .inl ⟨[], rfl, trivial⟩
  | succ n ih =>
    cases hb : s.read x with
    | none => exact .inr ⟨[], Nat.succ_pos n, trivial, by simpa using hb⟩
    | some b =>
      rcases ih (x + 1) with ⟨vs, hlen, hvs⟩ | ⟨vs, hlen, hvs, hnone⟩
      · exact .inl ⟨b :: vs, congrArg Nat.succ hlen, hb, hvs⟩
      · rw [word_add_succ] at hnone
        exact .inr ⟨b :: vs, Nat.succ_lt_succ hlen, ⟨hb, hvs⟩, hnone⟩

theorem fetchByte_of_read {s : State} {b : Byte} (h : s.read s.pc = some b) :
    fetchByte s = .ok (b, { s with pc := s.pc + 1 }) := by
  rw [fetchByte, h]

/-- Written bytes are fetched, and PC moves past them. -/
theorem fetchBytes_of_bytesAt {s : State} {vs : List Byte} (h : bytesAt s s.pc vs) :
    fetchBytes vs.length s = .ok (vs, { s with pc := s.pc + BitVec.ofNat 16 vs.length }) := by
  induction vs generalizing s with
  | nil => simp [fetchBytes]
  | cons b vs ih =>
    obtain ⟨hb, hvs⟩ := h
    have hrest := ih ((bytesAt_congr (State.read_pc s (s.pc + 1)) (s.pc + 1) vs).2 hvs)
    rw [List.length_cons, fetchBytes, fetchByte_of_read hb]
    dsimp only
    rw [hrest, word_add_succ]

/-- A fetch stops at the first byte that was never written, with PC there. -/
theorem fetchBytes_of_unwritten {s : State} {vs : List Byte} {n : Nat} (h : bytesAt s s.pc vs) (hn : vs.length < n)
    (hnone : s.read (s.pc + BitVec.ofNat 16 vs.length) = none) :
    fetchBytes n s = .error (stoppedAt { s with pc := s.pc + BitVec.ofNat 16 vs.length }
      (s.pc + BitVec.ofNat 16 vs.length)) := by
  induction vs generalizing s n with
  | nil =>
    obtain ⟨n, rfl⟩ := Nat.exists_eq_succ_of_ne_zero (Nat.ne_of_gt hn)
    have hzero : s.pc + BitVec.ofNat 16 0 = s.pc := BitVec.add_zero s.pc
    rw [List.length_nil, hzero] at hnone ⊢
    rw [fetchBytes, fetchByte, hnone]
    rfl
  | cons b vs ih =>
    obtain ⟨n, rfl⟩ := Nat.exists_eq_succ_of_ne_zero (Nat.ne_of_gt (Nat.lt_of_le_of_lt (Nat.zero_le _) hn))
    obtain ⟨hb, hvs⟩ := h
    rw [List.length_cons, ← word_add_succ] at hnone ⊢
    have hrest := ih ((bytesAt_congr (State.read_pc s (s.pc + 1)) (s.pc + 1) vs).2 hvs) (Nat.lt_of_succ_lt_succ hn) hnone
    rw [fetchBytes, fetchByte_of_read hb]
    dsimp only
    rw [hrest]

/-- Where the bytes after the opcode are fetched: with the repeat latch set the opcode did not move PC (R820). -/
def State.afterOpcode (s : State) : Word := if s.haltRepeat then s.pc else s.pc + 1

theorem fetched_pc (s : State) (n : Nat) : (fetched s (1 + n)).pc = s.afterOpcode + BitVec.ofNat 16 n := by
  unfold fetched State.afterOpcode
  cases s.haltRepeat with
  | true => simp
  | false => rw [Nat.add_comm 1 n]; exact (word_add_succ s.pc n).symm

theorem fetched_one_pc (s : State) : (fetched s 1).pc = s.afterOpcode :=
  (fetched_pc s 0).trans (BitVec.add_zero _)

/-- Past the opcode byte, further bytes move PC only. -/
theorem fetched_one_advance (s : State) (n : Nat) :
    { fetched s 1 with pc := (fetched s 1).pc + BitVec.ofNat 16 n } = fetched s (1 + n) := by
  rw [fetched_one_pc, ← fetched_pc]
  rfl

section
variable {s : State} {o : Byte} {vs : List Byte}

/-- The opcode fetch of an instruction (R820). -/
theorem fetchOpcode_of_read (h : s.read s.pc = some o) :
    fetchOpcode { s with start := s.pc } = .ok (o, fetched s 1) := by
  have hpc : s.afterOpcode = (fetched s 1).pc := (fetched_one_pc s).symm
  rcases fetchOpcode_cases { s with start := s.pc } with ⟨v, hv, e⟩ | ⟨hv, -⟩
  · obtain rfl : v = o := Option.some.inj (hv.symm.trans h)
    unfold State.afterOpcode at hpc
    rw [e]
    simp only [hpc]
    rfl
  · cases hv.symm.trans h

theorem bytesAt_fetched_one (h : bytesAt s s.afterOpcode vs) : bytesAt (fetched s 1) (fetched s 1).pc vs := by
  rw [fetched_one_pc]
  exact (bytesAt_congr (s := s) (t := fetched s 1) (fun _ => rfl) _ vs).2 h

/-- An instruction whose bytes were all written is fetched whole. -/
theorem fetchInstr_of_bytesAt (ho : s.read s.pc = some o) (hvs : bytesAt s s.afterOpcode vs)
    (hlen : 1 + vs.length = instrLength o) : fetchInstr s = .ok (o :: vs, fetched s (1 + vs.length)) := by
  have himmediates : instrLength o - 1 = vs.length := by omega
  rw [fetchInstr, fetchOpcode_of_read ho]
  dsimp only
  rw [himmediates, fetchBytes_of_bytesAt (bytesAt_fetched_one hvs), fetched_one_advance]

theorem fetchInstr_of_unwritten_opcode (h : s.read s.pc = none) :
    fetchInstr s = .error (stoppedAt { s with start := s.pc } s.pc) := by
  rcases fetchOpcode_cases { s with start := s.pc } with ⟨v, hv, -⟩ | ⟨-, e⟩
  · cases hv.symm.trans h
  · rw [fetchInstr, e]
    rfl

theorem fetchInstr_of_unwritten_byte (ho : s.read s.pc = some o) (hvs : bytesAt s s.afterOpcode vs)
    (hlen : 1 + vs.length < instrLength o) (hnone : s.read (s.afterOpcode + BitVec.ofNat 16 vs.length) = none) :
    fetchInstr s =
      .error (stoppedAt (fetched s (1 + vs.length)) (s.afterOpcode + BitVec.ofNat 16 vs.length)) := by
  have himmediates : vs.length < instrLength o - 1 := by omega
  rw [← fetched_one_pc] at hnone ⊢
  rw [fetchInstr, fetchOpcode_of_read ho]
  dsimp only
  rw [fetchBytes_of_unwritten (bytesAt_fetched_one hvs) himmediates hnone, fetched_one_advance]

end

/-- What fetching an instruction can end in. -/
theorem fetchInstr_cases (s : State) :
    (∃ o vs, s.read s.pc = some o ∧ bytesAt s s.afterOpcode vs ∧ 1 + vs.length = instrLength o ∧
      fetchInstr s = .ok (o :: vs, fetched s (1 + vs.length))) ∨
    ∃ t x, s.read x = none ∧ t.start = s.pc ∧ t.ime = s.ime ∧ fetchInstr s = .error (stoppedAt t x) := by
  cases ho : s.read s.pc with
  | none => exact .inr ⟨{ s with start := s.pc }, s.pc, ho, rfl, rfl, fetchInstr_of_unwritten_opcode ho⟩
  | some o =>
    rcases bytesAt_cases s s.afterOpcode (instrLength o - 1) with ⟨vs, hlen, hvs⟩ | ⟨vs, hlen, hvs, hnone⟩
    · have hlen : 1 + vs.length = instrLength o := by have := instrLength_pos o; omega
      exact .inl ⟨o, vs, rfl, hvs, hlen, fetchInstr_of_bytesAt ho hvs hlen⟩
    · exact .inr ⟨fetched s (1 + vs.length), _, hnone, rfl, rfl,
        fetchInstr_of_unwritten_byte ho hvs (by omega) hnone⟩

end Sys2Proof.Machine
end

section
/-! One step: what it does by run state, what it makes of the instruction it fetches, and the obligations on fetching,
on the steps that do nothing and on their totality (R206, R303, R820 to R823, R841 to R843, R901, R903). -/
namespace Sys2Proof.Machine
open Sys2Proof.Claims

/-! ### The end of an instruction (R823) -/

theorem afterInstruction_of_faulted {t : State} {r : Fault} (h : t.run = .faulted r) (n : Nat) :
    afterInstruction n t = { t with report := .fault r } := by
  simp [afterInstruction, h]

theorem afterInstruction_of_not_faulted {t : State} (h : ∀ r, t.run ≠ .faulted r) (n : Nat) :
    afterInstruction n t =
      { t with
        ime := t.ime || t.eiDelay == 1
        eiDelay := if t.eiDelay = 2 then 1 else 0
        report := .executed n } := by
  unfold afterInstruction
  split
  · exact absurd ‹_› (h _)
  · rfl

theorem State.endOfInstruction_eq (t : State) :
    t.endOfInstruction =
      { t with ime := t.ime || t.eiDelay == 1, eiDelay := if t.eiDelay = 2 then 1 else 0 } := by
  unfold State.endOfInstruction
  cases t
  split <;> simp_all

/-- The model's end of an instruction is the one the statements describe. -/
theorem finish_eq_afterInstruction (n : Nat) (t : State) : finish n t = afterInstruction n t := by
  by_cases h : ∃ r, t.run = .faulted r
  · obtain ⟨r, h⟩ := h
    rw [finish_of_faulted h, afterInstruction_of_faulted h]
    rfl
  · have h : ∀ r, t.run ≠ .faulted r := fun r e => h ⟨r, e⟩
    rw [finish_of_not_faulted h, afterInstruction_of_not_faulted h, State.endOfInstruction_eq]
    rfl

/-! ### Running the bytes at PC -/

section
variable {s : State}

/-- The bytes of a whole instruction are as many as the first one asks for (R303). -/
theorem length_of_decode {o : Byte} {vs : List Byte} {i : Instr} (hwf : i.wellFormed = true)
    (h : decode (o :: vs) = .ok (i, [])) : 1 + vs.length = instrLength o := by
  obtain ⟨q, tail, hbytes, hcases⟩ := decode_cases h
  cases hbytes
  unfold instrLength
  rcases hcases with ⟨hf, rfl⟩ | ⟨k, n, hf, rfl, rfl⟩ | ⟨k, lo, hi, hf, rfl, rfl⟩ |
    ⟨hf, ⟨o2, rfl, rfl⟩ | ⟨rfl, -, rfl⟩⟩
  · rw [hf]; rfl
  · rw [hf]; rfl
  · rw [hf]; rfl
  · rw [hf]; rfl
  · cases hwf

theorem takesInterrupt_of_noInterrupt (h : noInterrupt s) : s.takesInterrupt = false := by
  unfold State.takesInterrupt
  rcases h with hime | hpending
  · rw [hime]
    rfl
  · have hpending : s.pending = 0 := hpending
    rw [hpending, Bool.and_eq_false_iff]
    exact .inr rfl

theorem step_of_no_cart (h : s.cart = none) : step s = .next (s.reported .noStep) := by
  simp only [step, sequencerStep, h]

theorem step_of_cart (hcart : s.cart ≠ none) : step s = loadedStep s := by
  obtain ⟨c, hc⟩ := Option.ne_none_iff_exists'.1 hcart
  simp only [step, sequencerStep, hc]

theorem step_of_faulted {r : Fault} (h : s.run = .faulted r) : step s = .next (s.reported .noStep) := by
  by_cases hcart : s.cart = none
  · exact step_of_no_cart hcart
  · rw [step_of_cart hcart]
    simp only [loadedStep, h]

theorem step_of_stopped (hcart : s.cart ≠ none) (h : s.run = .stopped) : step s = .next (s.reported .idle) := by
  rw [step_of_cart hcart]
  simp only [loadedStep, h]

theorem step_of_halted (hcart : s.cart ≠ none) (h : s.run = .halted) : step s = haltedStep s := by
  rw [step_of_cart hcart]
  simp only [loadedStep, h]

theorem step_of_running (hcart : s.cart ≠ none) (h : s.run = .running) : step s = runningStep s := by
  rw [step_of_cart hcart]
  simp only [loadedStep, h]

theorem step_eq_executeNext (hcart : s.cart ≠ none) (hrun : s.run = .running) (hint : noInterrupt s) :
    step s = executeNext s := by
  rw [step_of_running hcart hrun, runningStep, takesInterrupt_of_noInterrupt hint]
  rfl

theorem executeNext_of_error {t : State} (h : fetchInstr s = .error t) : executeNext s = .next (finish 0 t) := by
  rw [executeNext, h]

theorem executeNext_of_ok {bytes rest : List Byte} {u t : State} {i : Instr} (hf : fetchInstr s = .ok (bytes, u))
    (hd : decode bytes = .ok (i, rest)) (he : exec i u = .next t) :
    executeNext s = .next (finish (cycles i u.f) t) := by
  rw [executeNext, hf]
  dsimp only
  rw [hd]
  dsimp only
  rw [he]

/-- What executing the instruction at PC ends in: the end of an instruction whose bytes are all there, or of a stop at
one that was never written. -/
theorem executeNext_cases (s : State) :
    (∃ o vs i u, s.read s.pc = some o ∧ decode (o :: vs) = .ok (i, []) ∧ o :: vs = encode i ∧ i.wellFormed = true ∧
      exec i (fetched s (1 + vs.length)) = .next u ∧
      executeNext s = .next (afterInstruction (cycles i s.f) u)) ∨
    ∃ t x, ramAddress x ∧ t.start = s.pc ∧ t.ime = s.ime ∧
      executeNext s = .next (afterInstruction 0 (stoppedAt t x)) := by
  rcases fetchInstr_cases s with ⟨o, vs, ho, -, hlen, hf⟩ | ⟨t, x, hx, hstart, hime, hf⟩
  · obtain ⟨i, hi, hwf⟩ := decode_of_instrLength_le (Nat.le_of_eq hlen.symm)
    rw [List.drop_of_length_le (by omega)] at hi
    obtain ⟨u, hu⟩ := exec_responds hwf (fetched s (1 + vs.length))
    have hencode := eq_encode_append_of_decode hi
    rw [List.append_nil] at hencode
    rw [executeNext_of_ok hf hi hu, finish_eq_afterInstruction]
    exact .inl ⟨o, vs, i, u, ho, hi, hencode, hwf, hu, rfl⟩
  · rw [executeNext_of_error hf, finish_eq_afterInstruction]
    exact .inr ⟨t, x, ramAddress_of_read_eq_none hx, hstart, hime, rfl⟩

end

/-! ### The obligations -/

/-- Settles O41: each is one shared operation; HALT chooses by the three conditions the statement names. -/
theorem systemInstructions : Obligations.SystemInstructions := by
  refine ⟨rfl, rfl, fun _ => rfl, rfl, rfl, fun s => ?_⟩
  have hbug : (s.haltBug && !s.ime && s.pending != 0) = true ↔
      s.haltBug = true ∧ s.ime = false ∧ s.ieReg &&& s.ifReg &&& 0x1F ≠ 0 := by
    rw [Bool.and_eq_true, Bool.and_eq_true, Bool.not_eq_true', bne_iff_ne, and_assoc]
    exact Iff.rfl
  refine ⟨rfl, fun _ => rfl, rfl, rfl, fun h => ?repeats, fun h => ?halts⟩
  case repeats => rw [exec_halt, halt, if_pos (hbug.2 h)]
  case halts => rw [exec_halt, halt, if_neg (mt hbug.1 h)]

/-- Settles O5: each kind of step answers a next state, and a fetch that reads its bytes always decodes. -/
theorem everyStepAnswersANextState : Obligations.EveryStepAnswersANextState := by
  intro s
  unfold step
  rcases sequencerStep_cases (s := s) rfl with e | e | ⟨w, -, -, ⟨-, e⟩ | ⟨-, e⟩⟩ <;> rw [e]
  · exact ⟨_, rfl⟩
  · exact ⟨_, rfl⟩
  · exact ⟨_, rfl⟩
  · rcases executeNext_cases w with ⟨_, _, _, _, _, _, _, _, _, e⟩ | ⟨_, _, _, _, _, e⟩ <;> exact ⟨_, e⟩

/-- Settles O48: the written bytes are fetched and decoded, and the end of the instruction is the statement's own. -/
theorem stepRunsTheDecodedInstruction : Obligations.StepRunsTheDecodedInstruction := by
  intro s i o vs t hcart hrun hint hwf hdecode ho hvs ht
  have hfetch := fetchInstr_of_bytesAt ho hvs (length_of_decode hwf hdecode)
  rw [step_eq_executeNext hcart hrun hint, executeNext_of_ok hfetch hdecode ht, finish_eq_afterInstruction]
  rfl

/-- Settles O49: the fetch stops at the first byte that was never written. -/
theorem fetchOfAnUnwrittenByteFaults : Obligations.FetchOfAnUnwrittenByteFaults := by
  intro s hcart hrun hint
  rw [step_eq_executeNext hcart hrun hint]
  refine ⟨fun h => ?opcode, fun o vs x ho hvs hlen hx hnone => ?later⟩
  case opcode =>
    rw [executeNext_of_error (fetchInstr_of_unwritten_opcode h)]
    rfl
  case later =>
    obtain rfl : x = s.afterOpcode + BitVec.ofNat 16 vs.length := hx
    rw [executeNext_of_error (fetchInstr_of_unwritten_byte ho hvs hlen hnone), ← fetched_pc]
    rfl

/-- Settles O51: the step algorithm by run state. -/
theorem stepsThatDoNothing : Obligations.StepsThatDoNothing := fun _ =>
  ⟨step_of_no_cart, fun _ => step_of_faulted, step_of_stopped,
    fun hcart h hp => (step_of_halted hcart h).trans (if_pos hp)⟩

end Sys2Proof.Machine
end

section
/-! Interrupts and whole steps: the dispatch, the wake from Halted, what a step can be, and the obligations on IME, on the
latency of EI and on the run state (R107, R805, R810 to R812, R820 to R824, R842, R910). -/
namespace Sys2Proof.Machine
open Sys2Proof.Claims

/-! ### Arbitration and dispatch (R800, R810 to R812) -/

theorem vector_eq (k : Nat) : vector k = BitVec.ofNat 16 (0x40 + 8 * k) := by
  rw [vector, BitVec.ofNat_add]
  rfl

theorem lowestSource_lt (p : Byte) : lowestSource p < 5 := by
  unfold lowestSource
  repeat' split
  all_goals decide

theorem lowestSource_eq {p : Byte} {k : Nat} (hk : k < 5) (hset : p.getLsbD k = true)
    (hlower : ∀ j, j < k → p.getLsbD j = false) : lowestSource p = k := by
  interval_cases k <;> grind [lowestSource]

theorem getLsbD_pending (s : State) {j : Nat} (hj : j < 5) :
    s.pending.getLsbD j = (s.ieReg &&& s.ifReg).getLsbD j := by
  have hmask : (0x1F : Byte).getLsbD j = true := by interval_cases j <;> rfl
  rw [State.pending, BitVec.getLsbD_and, hmask, Bool.and_true]

/-- The source bit is cleared and the others stay (R812). -/
theorem getLsbD_clear (v : Byte) {k j : Nat} (hj : j < 8) :
    (v &&& ~~~(1#8 <<< k)).getLsbD j = if j = k then false else v.getLsbD j := by
  rw [BitVec.getLsbD_and, BitVec.getLsbD_not, BitVec.getLsbD_shiftLeft, BitVec.getLsbD_one]
  grind

/-- A step that takes an interrupt dispatches, whether the CPU was Running or is woken by it (R820, R821). -/
theorem step_of_interrupt {s : State} (hcart : s.cart ≠ none) (hrun : s.run = .running ∨ s.run = .halted)
    (hime : s.ime = true) (hpending : s.pending ≠ 0) :
    step s = .next ({ s with run := .running }.dispatch.reported
      (.serviced (vector (lowestSource s.pending)) dispatchCycles)) := by
  have htakes : ({ s with run := .running } : State).takesInterrupt = true :=
    Bool.and_eq_true_iff.2 ⟨hime, bne_iff_ne.2 hpending⟩
  have hstep : step s = runningStep { s with run := .running } := by
    rcases hrun with h | h
    · rw [step_of_running hcart h, ← h]
    · rw [step_of_halted hcart h, haltedStep, if_neg hpending]
  rw [hstep, runningStep, if_pos htakes]
  rfl

/-- Settles O50: the dispatch of the lowest source is a push of PC and the changes the statement lists. -/
theorem interruptDispatch : Obligations.InterruptDispatch := by
  intro s k hcart hrun hime hk hset hlower
  have hpendingSet : s.pending.getLsbD k = true := (getLsbD_pending s hk).trans hset
  have hsource : lowestSource s.pending = k :=
    lowestSource_eq hk hpendingSet fun j hj => (getLsbD_pending s (hj.trans hk)).trans (hlower j hj)
  have hpending : s.pending ≠ 0 := fun e => by
    rw [e] at hpendingSet
    simp at hpendingSet
  refine ⟨s.ifReg &&& ~~~(1#8 <<< k), fun j hj => getLsbD_clear s.ifReg hj, ?_⟩
  rw [step_of_interrupt hcart hrun hime hpending, State.dispatch, State.push16_eq_pushed]
  have hsource' : lowestSource ({ s with run := .running } : State).pending = k := hsource
  rw [hsource, hsource', ← vector_eq]
  rfl

/-! ### What a step can be -/

/-- The four kinds of step: one that changes nothing but the report, a dispatch, the end of an instruction, and the end
of a fetch that found a byte never written. -/
inductive Stepped (s : State) : State → Prop where
  | nothing {r : StepResult} (hr : r = .noStep ∨ r = .idle) : Stepped s (s.reported r)
  | dispatched (hime : s.ime = true) (v : Word) (n : Nat) :
    Stepped s ({ s with run := .running }.dispatch.reported (.serviced v n))
  | executed {o : Byte} {vs : List Byte} {i : Instr} {u : State} (ho : s.read s.pc = some o)
    (hdecode : decode (o :: vs) = .ok (i, [])) (hwf : i.wellFormed = true)
    (hu : exec i (fetched { s with run := .running } (1 + vs.length)) = .next u) (n : Nat) :
    Stepped s (afterInstruction n u)
  | unfetched {u : State} {x : Word} (hx : ramAddress x) (hstart : u.start = s.pc) (hime : u.ime = s.ime) :
    Stepped s (afterInstruction 0 (stoppedAt u x))

theorem stepped_of_step {s t : State} (h : step s = .next t) : Stepped s t := by
  rcases sequencerStep_cases h with e | e | ⟨w, hw, -, ⟨htakes, e⟩ | ⟨-, e⟩⟩
  · cases e; exact .nothing (.inl rfl)
  · cases e; exact .nothing (.inr rfl)
  · subst hw
    cases e
    exact Stepped.dispatched (s := s) (Bool.and_eq_true_iff.1 htakes).1 _ _
  · subst hw
    rcases executeNext_cases { s with run := .running } with
      ⟨o, vs, i, u, ho, hdecode, -, hwf, hu, e'⟩ | ⟨u, x, hx, hstart, hime, e'⟩
    · rw [e'] at e
      cases e
      exact Stepped.executed (s := s) ho hdecode hwf hu _
    · rw [e'] at e
      cases e
      exact Stepped.unfetched (s := s) hx hstart hime

/-- The first byte of an instruction is that of its encoding. -/
theorem opcode_of_decode {o q : Byte} {vs ws : List Byte} {i : Instr} (h : decode (o :: vs) = .ok (i, []))
    (he : encode i = q :: ws) : o = q := by
  have hbytes := eq_encode_append_of_decode h
  rw [he, List.append_nil] at hbytes
  exact (List.cons.inj hbytes).1

theorem instr_of_decode {o : Byte} {vs : List Byte} {i j : Instr} (h : decode (o :: vs) = .ok (i, []))
    (hj : onePage o = .op j) : i = j := by
  rw [decode_op hj] at h
  cases h
  rfl

/-- What an instruction makes of IME and of the counter, from their values `ime` and `d` before it (R710, R755, R756):
the cases DI, EI, RETI, and every other instruction or a RETI that stops at an unwritten byte. -/
def ControlAfter (i : Instr) (ime : Bool) (d : Fin 3) (t : State) : Prop :=
  (i = .di ∧ t.ime = false ∧ t.eiDelay = 0) ∨ (i = .ei ∧ t.ime = ime ∧ t.eiDelay = 2) ∨
    (i = .reti ∧ t.ime = true ∧ t.eiDelay = 0) ∨ (i ≠ .di ∧ i ≠ .ei ∧ t.ime = ime ∧ t.eiDelay = d)

theorem exec_controlAfter {i : Instr} (hwf : i.wellFormed = true) {s t : State} (h : exec i s = .next t) :
    ControlAfter i s.ime s.eiDelay t := by
  by_cases hdi : i = .di
  · subst hdi; cases h; exact .inl ⟨rfl, rfl, rfl⟩
  by_cases hei : i = .ei
  · subst hei; cases h; exact .inr (.inl ⟨rfl, rfl, rfl⟩)
  by_cases hreti : i = .reti
  · subst hreti
    rcases (exec_reti_cases h).2 with ⟨hime, hdelay⟩ | ⟨hime, hdelay, -⟩
    · exact .inr (.inr (.inl ⟨rfl, hime, hdelay⟩))
    · exact .inr (.inr (.inr ⟨hdi, hei, hime, hdelay⟩))
  obtain ⟨hime, hdelay, -⟩ := exec_keeps_control hwf h
  exact .inr (.inr (.inr ⟨hdi, hei, hime hdi hreti, hdelay hdi hei hreti⟩))

/-- At the end of an instruction IME is set if the instruction left it set, or by the countdown (R823). -/
theorem afterInstruction_ime (n : Nat) (u : State) :
    (afterInstruction n u).ime = true ↔ u.ime = true ∨ (u.eiDelay = 1 ∧ ∀ r, u.run ≠ .faulted r) := by
  by_cases hfault : ∃ r, u.run = .faulted r
  · obtain ⟨r, hr⟩ := hfault
    rw [afterInstruction_of_faulted hr]
    exact ⟨.inl, fun h => h.resolve_right fun h' => h'.2 r hr⟩
  · have hok : ∀ r, u.run ≠ .faulted r := fun r e => hfault ⟨r, e⟩
    rw [afterInstruction_of_not_faulted hok, Bool.or_eq_true, beq_iff_eq]
    exact or_congr_right (and_iff_left hok).symm

theorem afterInstruction_run (n : Nat) (u : State) : (afterInstruction n u).run = u.run := by
  unfold afterInstruction
  split <;> rfl

/-- Settles O54: a step that changes IME is a dispatch, or it executed an instruction that names IME, or its countdown
ended. -/
theorem masterEnableChanges : Obligations.MasterEnableChanges := by
  intro s t h
  cases stepped_of_step h with
  | nothing => exact ⟨fun h0 h1 => by simp [h0] at h1, fun h1 h0 => by simp [h1] at h0⟩
  | dispatched hime v n => exact ⟨fun h0 => by simp [hime] at h0, fun _ _ => .inr ⟨v, n, rfl⟩⟩
  | @unfetched u x hx hstart hime =>
    have kept : (afterInstruction 0 (stoppedAt u x)).ime = s.ime := hime
    exact ⟨fun h0 h1 => by simp [kept, h0] at h1, fun h1 h0 => by simp [kept, h1] at h0⟩
  | @executed o vs i u ho hdecode hwf hu n =>
    have hcontrol : ControlAfter i s.ime s.eiDelay u :=
      exec_controlAfter (s := fetched { s with run := .running } _) hwf hu
    refine ⟨fun h0 h1 => ?set, fun h1 h0 => ?cleared⟩
    case set =>
      rw [afterInstruction_ime] at h1
      rcases hcontrol with ⟨-, hi, hd⟩ | ⟨-, hi, hd⟩ | ⟨rfl, -⟩ | ⟨-, -, hi, hd⟩
      · simp [hi, hd] at h1
      · simp [hi, hd, h0] at h1
      · exact .inl (opcode_of_decode hdecode rfl ▸ ho)
      · obtain ⟨hone, hok⟩ := h1.resolve_left (by simp [hi, h0])
        rw [afterInstruction_of_not_faulted hok]
        exact .inr ⟨hd.symm.trans hone, n, rfl⟩
    case cleared =>
      have hu0 : u.ime ≠ true := fun e => by simp [(afterInstruction_ime n u).2 (.inl e)] at h0
      rcases hcontrol with ⟨rfl, -⟩ | ⟨-, hi, -⟩ | ⟨-, hi, -⟩ | ⟨-, -, hi, -⟩
      · exact .inl (opcode_of_decode hdecode rfl ▸ ho)
      · exact absurd (hi.trans h1) hu0
      · exact absurd hi hu0
      · exact absurd (hi.trans h1) hu0

/-- Settles O53: EI arms the counter with 2 and the end of the instruction counts it down; at 1 the end of the next one
sets IME, unless that one was DI or EI. -/
theorem enableInterruptLatency : Obligations.EnableInterruptLatency := by
  intro s hcart hrun hint
  refine ⟨fun ho => ?ei, fun hd hime o t n ho ht hreport => ?next⟩
  case ei =>
    have hstep := stepRunsTheDecodedInstruction s .ei 0xFB [] _ hcart hrun hint rfl rfl ho trivial (exec_ei _)
    refine ⟨_, hstep, ?_⟩
    rw [afterInstruction_of_not_faulted fun r e => by cases hrun.symm.trans e]
    exact ⟨rfl, hrun, Bool.or_false s.ime⟩
  case next =>
    cases stepped_of_step ht with
    | nothing hr => rcases hr with rfl | rfl <;> cases hreport
    | dispatched => cases hreport
    | unfetched => cases hreport
    | @executed q vs i u hq hdecode hwf hu m =>
      obtain rfl : q = o := Option.some.inj (hq.symm.trans ho)
      have hcontrol : ControlAfter i s.ime s.eiDelay u :=
        exec_controlAfter (s := fetched { s with run := .running } _) hwf hu
      have hok : ∀ r, u.run ≠ .faulted r := fun r e => by
        rw [afterInstruction_of_faulted e] at hreport
        cases hreport
      rw [afterInstruction_of_not_faulted hok]
      rcases hcontrol with ⟨rfl, hi, hd'⟩ | ⟨rfl, hi, hd'⟩ | ⟨rfl, hi, hd'⟩ | ⟨hdi, hei, hi, hd'⟩
      · obtain rfl := opcode_of_decode hdecode rfl
        simp [hi, hd']
      · obtain rfl := opcode_of_decode hdecode rfl
        simp [hi, hd', hime]
      · obtain rfl := opcode_of_decode hdecode rfl
        simp [hi, hd']
      · have hdi : q ≠ 0xF3 := by
          rintro rfl
          exact hdi (instr_of_decode hdecode rfl)
        have hei : q ≠ 0xFB := by
          rintro rfl
          exact hei (instr_of_decode hdecode rfl)
        exact ⟨fun _ _ => by simp [hd', hd], fun e => absurd e hdi, fun e => absurd e hei⟩

/-! ### The run state (R107, R842) -/

/-- Settles O55: nothing a step does leaves Stopped or Faulted, and an instruction changes the run state in the ways of
`exec_run_cases`. -/
theorem runStateChanges : Obligations.RunStateChanges := by
  intro s t h
  have hfaulted : ∀ r, s.run = .faulted r → t.run = .faulted r := fun r hr => by
    rw [step_of_faulted hr] at h
    cases h
    exact hr
  have hstopped : s.run = .stopped → t.run = .stopped := fun hs => by
    by_cases hcart : s.cart = none
    · rw [step_of_no_cart hcart] at h
      cases h
      exact hs
    · rw [step_of_stopped hcart hs] at h
      cases h
      exact hs
  refine ⟨hstopped, hfaulted, ?_⟩
  cases stepped_of_step h with
  | nothing => exact ⟨.inl, .inl, fun _ => .inl⟩
  | dispatched => simp
  | @unfetched u x hx hstart hime =>
    rw [afterInstruction_of_faulted rfl]
    refine ⟨nofun, nofun, fun r e => .inr ?_⟩
    cases e
    exact ⟨rfl, .inr ⟨x, by rw [hstart], hx⟩⟩
  | @executed o vs i u ho hdecode hwf hu n =>
    rw [afterInstruction_run]
    rcases exec_run_cases hwf hu with e | ⟨rfl, e⟩ | ⟨⟨m, rfl⟩, e⟩ | ⟨q, hq, he, rfl⟩ | ⟨x, hx, e⟩
    · have e : u.run = .running := e
      simp [e]
    · obtain rfl := opcode_of_decode hdecode rfl
      simp [e, ho]
    · obtain rfl := opcode_of_decode hdecode rfl
      simp [e, ho]
    · obtain rfl := opcode_of_decode hdecode he
      refine ⟨nofun, nofun, fun r e => .inr ?_⟩
      cases e
      exact ⟨rfl, .inl ⟨o, hq, ho, rfl, rfl⟩⟩
    · refine ⟨fun h => by simp [e] at h, fun h => by simp [e] at h, fun r h => .inr ?_⟩
      obtain rfl : Fault.uninitializedRead x s.pc = r := RunState.faulted.inj (e.symm.trans h)
      rw [afterInstruction_of_faulted e]
      exact ⟨rfl, .inr ⟨x, rfl, hx⟩⟩

/-- Settles O52: an enabled interrupt makes a Halted step the step of the Running machine, and that one ends Halted only
by HALT. -/
theorem haltedWakes : Obligations.HaltedWakes := by
  intro s hcart hrun hpending
  have hpending : s.pending ≠ 0 := hpending
  have hwake : step s = step { s with run := .running } := by
    rw [step_of_halted hcart hrun, haltedStep, if_neg hpending]
    exact (step_of_running (s := { s with run := .running }) hcart rfl).symm
  refine ⟨hwake, fun hime => ?dispatches, fun t ht => ?awake⟩
  case dispatches =>
    have hstep := step_of_interrupt hcart (.inr hrun) hime hpending
    rw [vector_eq] at hstep
    exact ⟨_, lowestSource s.pending, hstep, lowestSource_lt _, rfl, vector_eq _⟩
  case awake =>
    rw [hwake] at ht
    obtain ⟨-, -, hhalted, -⟩ := runStateChanges _ t ht
    by_cases h : t.run = .halted
    · exact .inr ((hhalted h).resolve_left nofun)
    · exact .inl h

end Sys2Proof.Machine
end
